-- ==== Sys2Proof/Word.lean ====
section
/-! DEFINITION. The words of the BZ-230: bytes, 16-bit fields, station IDs, converter codes and the strap word. -/

namespace Sys2Proof

/-- One byte of a notice or of the nonvolatile memory (R164, R183). -/
abbrev Byte := BitVec 8

/-- A field of two bytes (R165). -/
abbrev Half := BitVec 16

/-- A 24-bit station ID (00_scope.md, Station IDs). -/
abbrev Station := BitVec 24

/-- A code 0..4095 of the 12-bit converter (R26). -/
abbrev AdcCode := BitVec 12

/-- The eleven strap pin levels in the order of the strap word (R194, R197). -/
abbrev Straps := BitVec 11

end Sys2Proof
end

