-- ==== Sys2Proof/Syntax.lean ====
section
/-! DEFINITION. The commands of the BZ-230: one constructor per row of spec/opcode_table.json, and the notices they carry. -/

namespace Sys2Proof

/-- The bodies of the twelve notice kinds (R165). -/
inductive Body where
  | call (depth : Byte)
  | join (depth position : Byte)
  | tally (items : List (Station × Half))
  | stir (cause : Byte)
  | survey (minutes : Byte)
  /-- `values` are the setpoint and setback, which a body carries when its hops are 0. -/
  | claim (root : Station) (hops generation : Byte) (values : Option (Half × Byte))
  | presence (zone : Station)
  | warmth (zone : Station) (temperature : Half)
  | ask (target : Station) (page : Byte)
  | answer (page : Byte) (content : List Byte)
  | set (target : Station) (item : Byte) (value : Half)
  | forget (target : Station)
  deriving DecidableEq, Repr

/-- One notice: its sender and its body (R164). -/
structure Notice where
  sender : Station
  body : Body
  deriving DecidableEq, Repr

/-- What the receive framer collected between two idles: the bytes in order, and whether a framing fault
or a line held dominant past 48 byte times fell in it (R163, R166). -/
structure Collected where
  bytes : List Byte
  fault : Bool
  deriving DecidableEq, Repr

/-- The commands. The operands are the values the event carries in its rule (log entry 5). -/
inductive Instr where
  /-- RESET: power-on or a low reset pin (R195). -/
  | reset
  /-- RESET_RELEASE: the pin levels latched at the release, as the strap word (R194). -/
  | resetRelease (pins : Straps)
  | oscillatorWaitEnd
  | startOfListenOnly
  | endOfListenOnly
  | call (sender : Station) (depth : Byte)
  | join (sender : Station) (depth position : Byte)
  | guardStart
  | startOfChips
  /-- CHIP_SIGNAL: the start of slot 16+chip (R8). -/
  | chipSignal (chip : Fin 16)
  | chipSample
  /-- LIGHT_CONVERSION_END: the code of the light channel (R34). -/
  | lightConversionEnd (code : AdcCode)
  | startOfSettle
  | roundClose
  | tally (sender : Station) (items : List (Station × Half))
  | stir (sender : Station) (cause : Byte)
  | survey (sender : Station) (minutes : Byte)
  | claim (sender root : Station) (hops generation : Byte) (values : Option (Half × Byte))
  | presence (sender zone : Station)
  | warmth (sender zone : Station) (temperature : Half)
  | ask (sender target : Station) (page : Byte)
  | answer (sender : Station) (page : Byte) (content : List Byte)
  | set (sender target : Station) (item : Byte) (value : Half)
  | forget (sender target : Station)
  /-- DISCARDED_NOTICE: what the framer collected (R166). -/
  | discardedNotice (raw : Collected)
  | headFixing
  | lineWin
  | loss
  | noticeCompletion
  | probeTimerExpiry
  | retryDelayExpiry
  | wantDeadlineExpiry
  | briskTimerExpiry
  | agingMinute
  | stirSpacingExpiry
  | ageSecond
  | generationTimerExpiry
  | claimSpacingExpiry
  | settleTimerExpiry
  | startUpHoldEnd
  /-- OCCUPANCY_SAMPLE: the level the occupancy pin stands at, sampled in whichever mode it is (R122). -/
  | occupancySample (pinHigh : Bool)
  | risingEdge
  | lockoutExpiry
  | holdTimerExpiry
  | graceTimerExpiry
  | presenceSpacingExpiry
  | fadeTick
  | pwmReload
  | compareMatch
  | sampleTimerExpiry
  /-- TEMPERATURE_CONVERSION_END: the raw code of the temperature channel (R27). -/
  | temperatureConversionEnd (code : AdcCode)
  | readingHoldExpiry
  | warmthTimerExpiry
  | rosterSecond
  | controlStep
  | restTimerExpiry
  | linkHoldOffExpiry
  | saveCompletion
  | clearCompletion
  | lineStartBit
  | backoffResume
  | framerFirstIdle
  deriving DecidableEq, Repr

end Sys2Proof
end

