-- ==== Sys2Proof/Decode.lean ====
section
/-! DEFINITION. The command a word spells. No row of spec/opcode_table.json has bits ("fields": [] in each), so no word
spells one. The notices' bytes are read by `Sys2Proof.Machine.judge`. -/

namespace Sys2Proof

/-- The command that a word of the table's bits spells: none, because no row has bits. -/
def decodeTableWord (_nbits _w : Nat) : Option Instr := none

end Sys2Proof
end

