-- ==== Sys2Proof/Config.lean ====
section
/-! DEFINITION. The free values: what the manual leaves open, as constants without a body. -/

namespace Sys2Proof.Config

/-- Which of several orders or events is taken where the rules give none (log entries 2, 9, 10).
The argument numbers the choice; the answer is taken modulo the number of alternatives. -/
opaque orderChoice : Nat → Nat

/-- The bits a cut erase or a cut programming leaves raised in one byte (R191, log entry 11). -/
opaque cutBits : Nat → Byte

/-- Which byte of page 1 a reset finds in progress in the last step of a save (R190, R191, log entry 11).
The answer is taken modulo 32. -/
opaque cutPlace : Nat → Nat

end Sys2Proof.Config
end

