-- ==== Sys2Proof/Machine/State.lean ====
section
/-! DEFINITION. The state of the BZ-230, block by block, as plain data, and the state right after reset.
INVENTORY.md lists every field with the rule that names it. -/

namespace Sys2Proof.Machine

/-- A timer: stopped (`none`), or running with this many free-running ticks of 62.5 µs remaining (00_scope.md, Time base). -/
abbrev Timer := Option Nat

/-- Where start-up stands (R195): reset held, step 1, steps 2 and 3 done, step 4, step 5. -/
inductive StartPhase where
  | held
  | oscillatorWait
  | restored
  | listenOnly
  | running
  deriving DecidableEq, Repr

/-! ### Round Controller (R2 to R25) -/

/-- The phase of the round view (R2). -/
inductive RoundPhase where
  | none
  | opening
  | chips
  | settle
  deriving DecidableEq, Repr

/-- A record of the prober list (R2). -/
structure ProberRecord where
  station : Station
  depth : Nat
  position : Nat
  deriving DecidableEq, Repr

/-- The base frozen at the start of CHIPS and the two chip levels of the override (R24). -/
structure ChipLevels where
  base : Nat
  high : Nat
  low : Nat
  deriving DecidableEq, Repr

/-- The slot timer (R4). `guardPassed`, `nextChip` and `nextSample` are the model's own marks of the slot events taken. -/
structure SlotTimer where
  counting : Bool
  prescaler : Nat
  tick : Nat
  slot : Nat
  guardPassed : Bool
  nextChip : Nat
  nextSample : Nat
  deriving DecidableEq, Repr

/-- The round view (R2), the slot timer (R4) and the chip override (R25). -/
structure RoundController where
  phase : RoundPhase
  probers : List ProberRecord
  own : Option Nat
  disordered : Bool
  timer : SlotTimer
  override : Option ChipLevels
  deriving DecidableEq, Repr

/-! ### Sense Unit (R26 to R43) -/

/-- The outcome of one result (R40): a coupling index, or the reason a round gave none. -/
inductive Finding where
  | index (k : Nat)
  | clipped
  | noisy
  deriving DecidableEq, Repr

/-- One result of a round (R40). -/
structure ProbeResult where
  station : Station
  position : Nat
  finding : Finding
  deriving DecidableEq, Repr

/-- The judgement of a round (R38). -/
inductive Judgement where
  | valid
  | clipped
  | noisy
  deriving DecidableEq, Repr

/-- What the Sense Unit holds in SAMPLING (R30): records, own position, chip index, the codes of the running chip,
the chip sums taken, the accumulators of P1..P6 and of the null code, and the clip mark. -/
structure Sampling where
  records : List ProberRecord
  own : Option Nat
  chip : Nat
  codes : List AdcCode
  sums : List Nat
  accs : List Int
  nullAcc : Int
  clip : Bool
  deriving DecidableEq, Repr

/-- The round state of the Sense Unit (section 2.2). -/
inductive SenseRound where
  | idle
  | sampling (held : Sampling)
  | ready (results : List ProbeResult) (judgement : Judgement)
  deriving DecidableEq, Repr

/-- A temperature burst at the arbiter (R27): the codes so far, and whether a conversion runs or the burst is held. -/
structure Burst where
  codes : List AdcCode
  converting : Bool
  deriving DecidableEq, Repr

/-- The Sense Unit with its converter and arbiter. -/
structure SenseUnit where
  round : SenseRound
  lightConverting : Bool
  burst : Option Burst
  lastSelf : Option Finding
  deriving DecidableEq, Repr

/-! ### Probe Scheduler (R44 to R57) -/

/-- The probing mode (R44). -/
inductive Mode where
  | normal
  | brisk
  deriving DecidableEq, Repr

/-- The scheduler state (R44). -/
inductive SchedState where
  | resting
  | wanting
  | probing
  deriving DecidableEq, Repr

/-- What a WANTING scheduler waits for (R44). -/
inductive Wait where
  | queued
  | closeWait
  | delay
  deriving DecidableEq, Repr

/-- The Probe Scheduler (R44). -/
structure Scheduler where
  mode : Mode
  brisk : Timer
  probe : Timer
  state : SchedState
  wait : Option Wait
  deadline : Timer
  retry : Timer
  deriving DecidableEq, Repr

/-! ### Neighbour Table (R58 to R82) -/

/-- The state of a link (R58). -/
inductive Link where
  | apart
  | rising
  | linked
  | falling
  | resumed
  deriving DecidableEq, Repr

/-- A claim: root, hops and generation (R58, R88). -/
structure Claim where
  root : Station
  hops : Nat
  generation : Byte
  deriving DecidableEq, Repr

/-- An entry of the Neighbour Table (R58). -/
structure Entry where
  station : Station
  seen : Option Nat
  previousSeen : Option Nat
  told : Option Nat
  link : Link
  claim : Option Claim
  quiet : Nat
  deriving DecidableEq, Repr

/-- The sensor state (R42). -/
inductive Sensor where
  | ok
  | suspect
  deriving DecidableEq, Repr

/-- The Neighbour Table (R58, R42, R72, R77). -/
structure NeighbourTable where
  slots : List (Option Entry)
  suspect : Nat
  sensor : Sensor
  stirSpacing : Timer
  agingMinute : Timer
  deriving DecidableEq, Repr

/-! ### Zone Election Unit (R83 to R106) -/

/-- An entry of the root list (R83). -/
structure RootEntry where
  root : Station
  generation : Byte
  setpoint : Int
  setback : Nat
  age : Nat
  deriving DecidableEq, Repr

/-- The Zone Election Unit (R83, R91, R95, R98, R104). -/
structure Election where
  roots : List (Option RootEntry)
  ownGeneration : Byte
  generationTimer : Timer
  derived : Claim
  parent : Option Station
  announced : Option Claim
  claimSpacing : Timer
  ageSecond : Timer
  deriving DecidableEq, Repr

/-! ### Working Zone Unit (R107 to R119) -/

/-- The Working Zone Unit (R107). A start-up hold of `none` has ended (or has not yet started). -/
structure WorkingZone where
  working : Station
  derivedCopy : Station
  settle : Timer
  hold : Timer
  deriving DecidableEq, Repr

/-! ### Lighting Unit (R120 to R141) -/

/-- The zone occupancy state (R131). -/
inductive Occupancy where
  | vacant
  | occupied
  | grace
  deriving DecidableEq, Repr

/-- The Lighting Unit with its output stage (R120, R138). `pin` is the level at the occupancy pin, `sampled` the last
sample of pulse mode and `sampling` the time to the next sample (R122, log entry 16). -/
structure Lighting where
  pin : Bool
  sampled : Option Bool
  sampling : Timer
  windowCount : Nat
  activeCount : Nat
  held : Bool
  lockout : Timer
  occupancy : Occupancy
  holdTimer : Timer
  graceTimer : Timer
  presenceSpacing : Timer
  task : Nat
  target : Nat
  output : Nat
  fadeTick : Timer
  buffered : Nat
  active : Nat
  counter : Nat
  drive : Bool
  deriving DecidableEq, Repr

/-! ### Climate Unit (R142 to R161) -/

/-- An entry of the warmth roster (R142). -/
structure RosterEntry where
  station : Station
  temperature : Int
  age : Nat
  deriving DecidableEq, Repr

/-- The Climate Unit (R142). -/
structure Climate where
  reading : Option Int
  readingHold : Timer
  sampleTimer : Timer
  warmthTimer : Timer
  setpoint : Int
  setback : Nat
  roster : List (Option RosterEntry)
  rosterSecond : Timer
  controlTimer : Timer
  lastMean : Option Int
  damper : Nat
  deriving DecidableEq, Repr

/-! ### Line Interface (R162 to R182) -/

/-- A request in the transmit queue, with its body where that is fixed when queued (R169). -/
inductive Request where
  | callJoin
  | tally (items : List (Station × Half))
  | stir (cause : Byte)
  | claim
  | presence
  | warmth
  | answer (page : Byte) (content : List Byte)
  deriving DecidableEq, Repr

/-- A request with the mark of the instant it entered the queue (R169). -/
structure Queued where
  request : Request
  entered : Nat
  deriving DecidableEq, Repr

/-- The line as this node hears it: busy, or idle for a time in units of 1/6400 byte time (R162). -/
inductive LineLevel where
  | busy
  | idle (units : Nat)
  deriving DecidableEq, Repr

/-- The two levels of the line: a station drives it dominant, or leaves it recessive (R162). -/
inductive Wire where
  | dominant
  | recessive
  deriving DecidableEq, Repr

/-- What a fixed head does (R172 to R176): its backoff counts or is paused with this remaining time, or is to be drawn
after a loss, or its notice is being sent with this time to the end of its last stop bit; from there to the completion the
line's own idle time counts (R177). Times are in units of 1/6400 byte time. -/
inductive HeadState where
  | counting (units : Nat)
  | paused (units : Nat)
  | lost
  | sending (notice : Notice) (units : Nat)
  deriving DecidableEq, Repr

/-- The contention state (R172): no head is fixed, or the first request is, with its exponent and attempt count. -/
inductive Contention where
  | unfixed
  | fixed (exponent attempts : Nat) (head : HeadState)
  deriving DecidableEq, Repr

/-- The receive framer (R163): off, or waiting for its first idle, or accepting start bits. -/
inductive Framer where
  | off
  | awaitingIdle
  | ready
  deriving DecidableEq, Repr

/-- The eight event counters in the order of R182. -/
structure Counters where
  lineDrops : Nat
  queueRefusals : Nat
  badNotices : Nat
  tableOverflows : Nat
  missedTurns : Nat
  noisyRounds : Nat
  clippedRounds : Nat
  disorderedRounds : Nat
  deriving DecidableEq, Repr

/-- The Line Interface (R163, R169, R172, R180, R182). `followOn` is a follow-on of the notice being sent (R170);
`entries` numbers the entries to the queue (the model's own). -/
structure LineInterface where
  queue : List Queued
  contention : Contention
  followOn : Bool
  entries : Nat
  level : LineLevel
  framer : Framer
  listenOnly : Timer
  counters : Counters
  deriving DecidableEq, Repr

/-! ### Zone Memory (R183 to R193) -/

/-- The nonvolatile memory as cells in rising address order; an unlisted byte reads FF (R183). -/
abbrev Memory := List Host.Cell

/-- The save engine (R186), with the ticks its page cycle has run. -/
inductive Engine where
  | idle
  | saving (elapsed : Nat)
  | clearing (elapsed : Nat)
  deriving DecidableEq, Repr

/-- Zone Memory (R183, R186). -/
structure ZoneMemory where
  nv : Memory
  engine : Engine
  rest : Timer
  pendingSave : Bool
  pendingClear : Bool
  linkHoldOff : Timer
  snapshot : Option (List Byte)
  deriving DecidableEq, Repr

/-- The whole part. `free` numbers the free values read, `pending` is the queue of commands waiting (both the model's own). -/
structure State where
  phase : StartPhase
  straps : Straps
  prescaler : Nat
  rng : BitVec 16
  round : RoundController
  sense : SenseUnit
  sched : Scheduler
  table : NeighbourTable
  election : Election
  zone : WorkingZone
  light : Lighting
  climate : Climate
  line : LineInterface
  memory : ZoneMemory
  free : Nat
  pending : List Instr
  deriving DecidableEq, Repr

/-- Why a step would stop with a fault. The manual gives the part no fault: no event stops it, so there is no constructor. -/
inductive Fault where
  deriving DecidableEq, Repr

/-- Why a step would be refused. -/
inductive Refusal where
  /-- Raised by an arm of `exec` for a row without a meaning; safe (the machine stops). No arm raises it. -/
  | notModelled (mnemonic : String)
  deriving DecidableEq, Repr

/-- The slot timer at slot 0, tick 0, not counting (R3). -/
def SlotTimer.stopped : SlotTimer :=
  { counting := false, prescaler := 0, tick := 0, slot := 0, guardPassed := false, nextChip := 0, nextSample := 0 }

/-- The station of the identity page at `State.reset` (DESIGN CHOICE, log entry 6). -/
def State.resetStation : Station := 0x00A310

/-- The machine right after reset, with the reset pin still low. The prescaler of the free-running tick stands at 0, so that
the first tick falls 256 crystal cycles after step 2 of start-up (DESIGN CHOICE, log entry 40). -/
def State.reset : State where
  phase := .held
  straps := 0
  prescaler := 0
  rng := 0xA310
  round := { phase := .none, probers := [], own := none, disordered := false, timer := .stopped, override := none }
  sense := { round := .idle, lightConverting := false, burst := none, lastSelf := none }
  sched := { mode := .brisk, brisk := some (600 * 16000), probe := none, state := .resting, wait := none,
             deadline := none, retry := none }
  table := { slots := List.replicate 16 none, suspect := 0, sensor := .ok, stirSpacing := none, agingMinute := none }
  election := { roots := List.replicate 16 none, ownGeneration := 0, generationTimer := none,
                derived := ⟨State.resetStation, 0, 0⟩, parent := none, announced := none, claimSpacing := none,
                ageSecond := none }
  zone := { working := State.resetStation, derivedCopy := State.resetStation, settle := none, hold := none }
  light := { pin := false, sampled := none, sampling := none, windowCount := 0, activeCount := 0, held := false,
             lockout := none, occupancy := .vacant, holdTimer := none, graceTimer := none, presenceSpacing := none,
             task := 700, target := 0, output := 0, fadeTick := none, buffered := 0, active := 0,
             counter := 0, drive := false }
  climate := { reading := none, readingHold := none, sampleTimer := none, warmthTimer := none, setpoint := 235,
               setback := 30, roster := List.replicate 24 none, rosterSecond := none, controlTimer := none,
               lastMean := none, damper := 0 }
  line := { queue := [], contention := .unfixed, followOn := false, entries := 0, level := .busy, framer := .off,
            listenOnly := none, counters := ⟨0, 0, 0, 0, 0, 0, 0, 0⟩ }
  memory := { nv := [(0, 0x00), (1, 0xA3), (2, 0x10), (3, 0x00)], engine := .idle, rest := none, pendingSave := false,
              pendingClear := false, linkHoldOff := none, snapshot := none }
  free := 0
  pending := []

end Sys2Proof.Machine
end

