-- ==== Sys2Proof/Machine/Memory.lean ====
section
/-! DEFINITION. The nonvolatile memory: 8 pages of 32 bytes, byte addresses 0..255 (R183), in one canonical form. -/

namespace Sys2Proof.Machine

/-- An erased byte (R183): what an unlisted address reads as. -/
abbrev erasedByte : Byte := 0xFF

/-- One byte of the memory. -/
def Memory.read : Memory → Nat → Byte
  | [], _ => erasedByte
  | (x, b) :: rest, a => if a = x then b else Memory.read rest a

/-- Set one byte, keeping the canonical form: an erased byte is not listed. -/
def Memory.write : Memory → Nat → Byte → Memory
  | [], a, v => if v = erasedByte then [] else [(a, v)]
  | (x, b) :: rest, a, v =>
    if a < x then (if v = erasedByte then (x, b) :: rest else (a, v) :: (x, b) :: rest)
    else if a = x then (if v = erasedByte then rest else (a, v) :: rest)
    else (x, b) :: Memory.write rest a v

/-- The canonical form: addresses strictly rising and below 256, no listed byte erased. -/
def Memory.wf : Memory → Bool
  | [] => true
  | (x, b) :: rest => decide (x < 256) && decide (b ≠ erasedByte) && rest.all (fun c => decide (x < c.1)) && Memory.wf rest

/-- The page of a byte address (R183). -/
def pageOf (address : Nat) : Nat := address / 32

/-- Erase a page: every byte reads FF. Refused at page 0 (R183). -/
def Memory.erasePage (m : Memory) (page : Nat) : Memory :=
  if page = 0 then m else m.filter (fun c => decide (pageOf c.1 ≠ page))

/-- Program one byte: bits go from 1 to 0 and none from 0 to 1. Refused at page 0 (R183). -/
def Memory.program (m : Memory) (address : Nat) (value : Byte) : Memory :=
  if pageOf address = 0 ∨ 256 ≤ address then m else m.write address (m.read address &&& value)

/-- Program bytes at consecutive addresses. -/
def Memory.programAll (m : Memory) : Nat → List Byte → Memory
  | _, [] => m
  | address, v :: rest => Memory.programAll (m.program address v) (address + 1) rest

/-- Program bytes at consecutive addresses from the highest down to the lowest. -/
def Memory.programDown (m : Memory) : Nat → List Byte → Memory
  | _, [] => m
  | address, v :: rest => (Memory.programDown m (address + 1) rest).program address v

/-- `count` bytes from an address on. -/
def Memory.bytes (m : Memory) (address count : Nat) : List Byte :=
  (List.range count).map (fun i => m.read (address + i))

/-- The station ID of the identity page: bytes 0..2, most significant first (R183). -/
def Memory.stationId (m : Memory) : Station :=
  m.read 0 ++ m.read 1 ++ m.read 2

/-- The temperature trim of the identity page: byte 3, sign in bit 7, magnitude in bits 0..2 (R183). -/
def Memory.trim (m : Memory) : Int :=
  let magnitude : Int := ((m.read 3).toNat % 8 : Nat)
  if (m.read 3).msb then -magnitude else magnitude

end Sys2Proof.Machine
end

