-- ==== Sys2Proof/Machine/Ops.lean ====
section
/-! DEFINITION. Operations every block uses: the node's station, stations and their ranges, straps, timers, draws,
counters, slots, and the free order of deliveries that the rules leave unordered. -/

namespace Sys2Proof.Machine

/-- What a command answers. -/
abbrev Result := Host.Outcome State Fault Refusal

/-- The expiry of a timer: it takes effect while the timer runs; a stopped timer does not expire (log entries 3, 4). -/
def onExpiry (timer : Timer) (effect : State → State) (s : State) : State := if timer.isSome then effect s else s

/-! ### Stations -/

/-- This node's station ID: the identity page is read at start-up and never changes (R183, R195). -/
def State.station (s : State) : Station := s.memory.nv.stationId

/-- A service tool's ID: F00000..FFFFFF (R200). -/
def isTool (i : Station) : Bool := decide (0xF00000 ≤ i)

/-- A node's ID: 000001..EFFFFF (00_scope.md, Station IDs). -/
def isNode (i : Station) : Bool := decide (i ≠ 0) && !isTool i

/-! ### Straps (R194, R197) -/

/-- `width` pins of the strap word from bit `low` on, as a number. -/
def strapField (w : Straps) (low width : Nat) : Nat := (w.toNat >>> low) % 2 ^ width

/-- ST-TERM: a terminal node. -/
def State.terminal (s : State) : Bool := decide (strapField s.straps 10 1 = 1)

/-- ST-SENS: the sensitivity class. -/
def State.sensClass (s : State) : Nat := strapField s.straps 8 2

/-- ST-DEPTH: the probe depth. -/
def State.depth (s : State) : Nat :=
  match strapField s.straps 6 2 with
  | 0 => 20
  | 1 => 40
  | 2 => 60
  | _ => 80

/-- ST-GAIN: the front-end gain (R26). -/
def State.gain (s : State) : Nat := strapField s.straps 5 1 + 1

/-- ST-DRIVE: the reload value R of the output stage (R138). -/
def State.reload (s : State) : Nat := if strapField s.straps 4 1 = 0 then 24 else 524

/-- ST-OCC: the occupancy mode (R122). -/
def State.occMode (s : State) : Nat := strapField s.straps 0 2

/-! ### Time -/

/-- Ticks in so many seconds: the tick is 62.5 µs (00_scope.md, Time base). -/
def seconds (n : Nat) : Nat := n * 16000

/-- Ticks in so many milliseconds. -/
def milliseconds (n : Nat) : Nat := n * 16

/-- Ticks in one slot (R4). -/
def slotTicks : Nat := 128

/-- Units of line time in one byte time; a crystal cycle is three of them (R162, log entry 23). -/
def byteTime : Nat := 6400

/-- Units of line time in one bit time: a byte is ten bits (R162). -/
def bitTime : Nat := byteTime / 10

/-- ST-HOLD: the hold time H, in ticks (R131). -/
def State.holdTime (s : State) : Nat :=
  match strapField s.straps 2 2 with
  | 0 => seconds 300
  | 1 => seconds 600
  | 2 => seconds 900
  | _ => seconds 1800

/-- Listen-only is running (R180). -/
def State.inListenOnly (s : State) : Bool := decide (s.phase = .listenOnly)

/-- The blocks take the line's and the pins' events: from the start of listen-only on (R195). -/
def State.live (s : State) : Bool := decide (s.phase = .listenOnly) || decide (s.phase = .running)

/-! ### Draws (R1) -/

/-- The generator advanced once: the exclusive-or of bits 0, 2, 3 and 5 enters bit 15 of the state shifted right. -/
def lfsrNext (g : BitVec 16) : BitVec 16 :=
  let feedback := g.getLsbD 0 ^^ g.getLsbD 2 ^^ g.getLsbD 3 ^^ g.getLsbD 5
  (g >>> 1) ||| (if feedback then 0x8000#16 else 0#16)

/-- The seed of a station: its low 16 bits, or 0001 when those are 0. -/
def lfsrSeed (station : Station) : BitVec 16 :=
  let low := station.truncate 16
  if low = 0 then 1 else low

/-- The draw of 0..n taken from an advanced state. -/
def drawFrom (g : BitVec 16) (n : Nat) : Nat := g.toNat * (n + 1) / 65536

/-- The value the next draw of 0..n gives. -/
def State.drawValue (s : State) (n : Nat) : Nat := drawFrom (lfsrNext s.rng) n

/-- The state after a draw. -/
def State.afterDraw (s : State) : State := { s with rng := lfsrNext s.rng }

/-! ### Counters and clamps -/

/-- A 16-bit event counter advanced by 1, staying at 65535 (R182). -/
def bump (n : Nat) : Nat := if n < 65535 then n + 1 else n

/-- Change the event counters. -/
def State.count (s : State) (f : Counters → Counters) : State :=
  { s with line := { s.line with counters := f s.line.counters } }

/-- A value limited to a range: below it the lower end, above it the upper end (R155, R198). -/
def clampInt (low high v : Int) : Int := if v < low then low else if high < v then high else v

/-- Move a value toward a goal by at most `up` or `down` (R135, R159). -/
def moveToward (value goal up down : Nat) : Nat :=
  if value < goal then min (value + up) goal
  else if goal < value then max (value - down) goal
  else value

/-! ### Slots of the tables -/

/-- The entry of a slot. -/
def slotAt {α : Type} (slots : List (Option α)) (i : Nat) : Option α := (slots[i]?).getD none

/-- The lowest slot whose entry meets a test. -/
def findSlot {α : Type} (slots : List (Option α)) (test : α → Bool) : Option Nat :=
  slots.findIdx? (fun x => x.any test)

/-- The lowest empty slot. -/
def emptySlot {α : Type} (slots : List (Option α)) : Option Nat :=
  slots.findIdx? (fun x => x.isNone)

/-- The entries held, in slot order. -/
def entriesOf {α : Type} (slots : List (Option α)) : List α := slots.filterMap id

/-! ### Deliveries without an order -/

/-- One of several outcomes that the rules leave unordered: where all agree that one, else a free choice. -/
def pickFree (alternatives : List State) (s : State) : State :=
  match alternatives with
  | [] => s
  | a :: rest =>
    if rest.all (fun b => decide (b = a)) then a
    else
      let chosen := (a :: rest).getD (Config.orderChoice s.free % (rest.length + 1)) a
      { chosen with free := chosen.free + 1 }

/-- Two deliveries at one instant, in either order. -/
def eitherOrder (f g : State → State) (s : State) : State :=
  pickFree [g (f s), f (g s)] s

/-- Three deliveries at one instant, in any order. -/
def anyOrder (f g h : State → State) (s : State) : State :=
  pickFree [h (g (f s)), g (h (f s)), h (f (g s)), f (h (g s)), g (f (h s)), f (g (h s))] s

end Sys2Proof.Machine
end

