-- ==== Sys2Proof/Machine/Frame.lean ====
section
/-! DEFINITION. The notice frame (R164), the bodies (R165), the check, and the judgement of a received notice (R166, R167). -/

namespace Sys2Proof.Machine

/-! ### Fields in bytes, most significant byte first (R164) -/

/-- The three bytes of a station ID. -/
def stationBytes (i : Station) : List Byte := [i.extractLsb' 16 8, i.extractLsb' 8 8, i.extractLsb' 0 8]

/-- The two bytes of a field of two bytes. -/
def halfBytes (h : Half) : List Byte := [h.extractLsb' 8 8, h.extractLsb' 0 8]

/-- A station ID from its bytes. -/
def toStation (a b c : Byte) : Station := a ++ b ++ c

/-- A field of two bytes from its bytes. -/
def toHalf (a b : Byte) : Half := a ++ b

/-! ### The check (R164) -/

/-- One bit of the division by x^16 + x^12 + x^5 + 1. -/
def crcBit (c : Half) : Half := if c.msb then (c <<< 1) ^^^ 0x1021 else c <<< 1

/-- One byte fed in, most significant bit first. -/
def crcByte (c : Half) (b : Byte) : Half :=
  Nat.repeat crcBit 8 (c ^^^ (b ++ (0 : Byte)))

/-- The check of some bytes: initial value FFFF, no inversion. -/
def crc16 (bytes : List Byte) : Half := bytes.foldl crcByte 0xFFFF

/-! ### Bodies in bytes (R165) -/

/-- The kind code of a body. -/
def kindCode : Body → Byte
  | .call _ => 0x11
  | .join _ _ => 0x12
  | .tally _ => 0x21
  | .stir _ => 0x31
  | .survey _ => 0x32
  | .claim _ _ _ _ => 0x41
  | .presence _ => 0x51
  | .warmth _ _ => 0x52
  | .ask _ _ => 0x61
  | .answer _ _ => 0x62
  | .set _ _ _ => 0x63
  | .forget _ => 0x64

/-- The twelve kind codes. -/
def kindCodes : List Byte := [0x11, 0x12, 0x21, 0x31, 0x32, 0x41, 0x51, 0x52, 0x61, 0x62, 0x63, 0x64]

/-- The bytes of TALLY items: station, then value. -/
def itemBytes : List (Station × Half) → List Byte
  | [] => []
  | (i, v) :: rest => stationBytes i ++ halfBytes v ++ itemBytes rest

/-- The bytes of a body. -/
def bodyBytes : Body → List Byte
  | .call d => [d]
  | .join d p => [d, p]
  | .tally items => BitVec.ofNat 8 items.length :: itemBytes items
  | .stir c => [c]
  | .survey m => [m]
  | .claim r h g none => stationBytes r ++ [h, g]
  | .claim r h g (some (sp, sb)) => stationBytes r ++ [h, g] ++ halfBytes sp ++ [sb]
  | .presence z => stationBytes z
  | .warmth z t => stationBytes z ++ halfBytes t
  | .ask t p => stationBytes t ++ [p]
  | .answer p content => p :: content
  | .set t i v => stationBytes t ++ [i] ++ halfBytes v
  | .forget t => stationBytes t

/-- Bytes 1..5+n of a notice: what the check covers. -/
def checkedBytes (n : Notice) : List Byte :=
  kindCode n.body :: (stationBytes n.sender ++ (BitVec.ofNat 8 (bodyBytes n.body).length :: bodyBytes n.body))

/-- The bytes of a notice on the line (R164). -/
def frameBytes (n : Notice) : List Byte :=
  0xC3 :: (checkedBytes n ++ halfBytes (crc16 (checkedBytes n)))

/-! ### Bits (R162) -/

/-- The level that sends a bit: dominant a 0, recessive a 1. -/
def wireOf (bit : Bool) : Wire := if bit then .recessive else .dominant

/-- The ten bits of a byte: the start bit, the data bits with the least significant first, the stop bit. -/
def byteBits (b : Byte) : List Wire :=
  .dominant :: ((List.range 8).map (fun i => wireOf (b.getLsbD i)) ++ [.recessive])

/-- The bits of a notice on the line, its bytes back to back. -/
def frameBits (n : Notice) : List Wire := (frameBytes n).flatMap byteBits

/-! ### Bodies from bytes (R165, R167) -/

/-- The items of a TALLY body after its count. -/
def parseItems : List Byte → Option (List (Station × Half))
  | [] => some []
  | a :: b :: c :: d :: e :: rest => (parseItems rest).map (fun items => (toStation a b c, toHalf d e) :: items)
  | _ => none

/-- The body a kind code and the body bytes spell; none where the length is not the kind's (R165, R167). -/
def parseBody (kind : Byte) (bytes : List Byte) : Option Body :=
  match kind.toNat, bytes with
  | 0x11, [d] => some (.call d)
  | 0x12, [d, p] => some (.join d p)
  | 0x21, k :: rest => if rest.length = 5 * k.toNat then (parseItems rest).map .tally else none
  | 0x31, [c] => some (.stir c)
  | 0x32, [m] => some (.survey m)
  | 0x41, [a, b, c, h, g] => some (.claim (toStation a b c) h g none)
  | 0x41, [a, b, c, h, g, d, e, f] => some (.claim (toStation a b c) h g (some (toHalf d e, f)))
  | 0x51, [a, b, c] => some (.presence (toStation a b c))
  | 0x52, [a, b, c, d, e] => some (.warmth (toStation a b c) (toHalf d e))
  | 0x61, [a, b, c, p] => some (.ask (toStation a b c) p)
  | 0x62, p :: content => some (.answer p content)
  | 0x63, [a, b, c, i, d, e] => some (.set (toStation a b c) i (toHalf d e))
  | 0x64, [a, b, c] => some (.forget (toStation a b c))
  | _, _ => none

/-! ### The judgement (R166, R167) -/

/-- What a judgement gives: discarded and counted as a bad notice, discarded uncounted, or passed. -/
inductive Verdict where
  | counted
  | uncounted
  | passes (n : Notice)
  deriving DecidableEq, Repr

/-- A depth byte is one of 20, 40, 60 and 80. -/
def depthByte (d : Byte) : Bool := decide (d.toNat ∈ [20, 40, 60, 80])

/-- Step 8 of R166: the body is in the range R167 gives for its kind and sender. -/
def bodyInRange (sender : Station) : Body → Bool
  | .call d => depthByte d && !isTool sender
  | .join d p => depthByte d && decide (2 ≤ p.toNat) && decide (p.toNat ≤ 6) && !isTool sender
  | .tally items => decide (1 ≤ items.length) && decide (items.length ≤ 6)
  | .claim r h _ values =>
    decide (h.toNat ≤ 15) && (decide (h = 0) == values.isSome) && (decide (h ≠ 0) || decide (r = sender)) && !isTool sender
  | .answer _ content => decide (content.length ≤ 36)
  | .set _ i _ => decide (1 ≤ i.toNat) && decide (i.toNat ≤ 3)
  | .stir _ | .survey _ | .presence _ | .warmth _ _ | .ask _ _ | .forget _ => true

/-- Steps 6 to 8 on the sender, the kind and the body read. -/
def judgeFields (sender : Station) (known : Bool) (body : Option Body) : Verdict :=
  if sender = 0 then .counted
  else if !known then .uncounted
  else
    match body with
    | none => .uncounted
    | some b => if bodyInRange sender b then .passes ⟨sender, b⟩ else .uncounted

/-- The judgement of what the framer collected, steps 1 to 8 in order (R166). -/
def judge (raw : Collected) : Verdict :=
  if raw.fault then .counted
  else
    match raw.bytes with
    | start :: kind :: a :: b :: c :: n :: rest =>
      if start ≠ 0xC3 then .counted
      else if 40 < n.toNat then .counted
      else if rest.length ≠ n.toNat + 2 then .counted
      else if rest.drop n.toNat ≠ halfBytes (crc16 (kind :: a :: b :: c :: n :: rest.take n.toNat)) then .counted
      else judgeFields (toStation a b c) (decide (kind ∈ kindCodes)) (parseBody kind (rest.take n.toNat))
    | _ => .counted

/-- The judgement of a notice given by its fields: a body over 40 bytes is broken (step 3), then steps 6 to 8. -/
def judgeNotice (n : Notice) : Verdict :=
  if 40 < (bodyBytes n.body).length then .counted
  else judgeFields n.sender true (some n.body)

end Sys2Proof.Machine
end

