-- ==== Sys2Proof/Machine/Queue.lean ====
section
/-! DEFINITION. The transmit queue: ranks, offers, replacement, follow-on, displacement, the fixing of the head, and
withdrawal (R169 to R173, R179). -/

namespace Sys2Proof.Machine

/-- The rank of a request (R169). -/
def rank : Request → Nat
  | .callJoin => 1
  | .tally _ | .stir _ => 2
  | .claim => 3
  | .presence | .warmth | .answer _ _ => 4

/-- The kinds held at most once (R169). -/
def heldOnce : Request → Bool
  | .callJoin | .claim | .presence | .warmth => true
  | .tally _ | .stir _ | .answer _ _ => false

/-- A request of this kind stands in the queue. -/
def LineInterface.holds (l : LineInterface) (r : Request) : Bool := l.queue.any (fun q => decide (q.request = r))

/-- The notice being sent, with the request it is of. -/
def LineInterface.sendingRequest (l : LineInterface) : Option Request :=
  match l.contention, l.queue with
  | .fixed _ _ (.sending _ _), q :: _ => some q.request
  | _, _ => none

/-- The line has been idle for so many byte times (R162). -/
def LineInterface.idleFor (l : LineInterface) (bytes : Nat) : Bool :=
  match l.level with
  | .busy => false
  | .idle units => decide (bytes * byteTime ≤ units)

/-- The line has been idle for 4 byte times (R162). -/
def LineInterface.idleFour (l : LineInterface) : Bool := l.idleFor 4

/-- The notice of this node's own whose last bit has gone out, until its completion (R177). -/
def LineInterface.sentWhole (l : LineInterface) : Option Notice :=
  match l.contention with
  | .fixed _ _ (.sending n 0) => some n
  | .fixed _ _ (.sending _ (_ + 1)) | .fixed _ _ (.counting _) | .fixed _ _ (.paused _) | .fixed _ _ .lost | .unfixed => none

/-- The queue takes this request now: before listen-only none, in listen-only ANSWER alone (R170, R180). -/
def takesRequest (phase : StartPhase) (r : Request) : Bool :=
  match phase, r with
  | .running, _ => true
  | .listenOnly, .answer _ _ => true
  | _, _ => false

/-- The draw of a backoff with exponent e, in units of line time (R173). -/
def State.backoffUnits (s : State) (exponent : Nat) : Nat := s.drawValue (2 ^ exponent - 1) * byteTime

/-- Fix the first request as head where none is fixed and the line has been idle for 4 byte times:
exponent 3, no attempt, first backoff drawn (R172). -/
def fixHead (s : State) : State :=
  match s.line.contention, s.line.queue with
  | .unfixed, _ :: _ =>
    if s.line.idleFour then
      { s.afterDraw with line := { s.line with contention := .fixed 3 0 (.counting (s.backoffUnits 3)) } }
    else s
  | _, _ => s

/-- A request at its place by rank, after the requests of its rank already there (R169). -/
def insertByRank (q : Queued) : List Queued → List Queued
  | [] => [q]
  | x :: rest => if rank q.request < rank x.request then q :: x :: rest else x :: insertByRank q rest

/-- A request enters the queue; a fixed head stays first (R169, R172). -/
def LineInterface.enter (l : LineInterface) (r : Request) : LineInterface :=
  let q : Queued := ⟨r, l.entries⟩
  let queue :=
    match l.contention, l.queue with
    | .fixed _ _ _, x :: rest => x :: insertByRank q rest
    | _, all => insertByRank q all
  { l with queue := queue, entries := l.entries + 1 }

/-- The requests that may be displaced: all but the fixed head (R171). -/
def LineInterface.displaceable (l : LineInterface) : List Queued :=
  match l.contention with
  | .fixed _ _ _ => l.queue.tail
  | .unfixed => l.queue

/-- The victim of an offer of rank r at a full queue: the request of rank greater than r that entered last (R171). -/
def LineInterface.victim (l : LineInterface) (r : Nat) : Option Queued :=
  (l.displaceable.filter (fun q => decide (r < rank q.request))).foldl
    (fun best q =>
      match best with
      | none => some q
      | some b => if b.entered ≤ q.entered then some q else some b) none

/-- Remove a displaced request (R171). -/
def LineInterface.displace (l : LineInterface) (v : Queued) : LineInterface :=
  match l.contention, l.queue with
  | .fixed _ _ _, x :: rest => { l with queue := x :: rest.erase v }
  | _, all => { l with queue := all.erase v }

/-- A request that needs a slot is offered (R170, R171). -/
def enterOrDisplace (r : Request) (s : State) : State :=
  if s.line.queue.length < 8 then fixHead { s with line := s.line.enter r }
  else
    let counted := s.count (fun c => { c with queueRefusals := bump c.queueRefusals })
    match s.line.victim (rank r) with
    | some v => fixHead { counted with line := (counted.line.displace v).enter r }
    | none => counted

/-- A request is offered to the queue (R170): it replaces one of its kind in place, is held as the follow-on of its
notice being sent, or needs a slot. -/
def offer (r : Request) (s : State) : State :=
  if !takesRequest s.phase r then s
  else if heldOnce r && s.line.holds r then
    if decide (s.line.sendingRequest = some r) && decide (r ≠ .callJoin) then
      { s with line := { s.line with followOn := true } }
    else s
  else enterOrDisplace r s

/-- The head leaves the queue, its contention state discarded with it. -/
def LineInterface.dropHead (l : LineInterface) : LineInterface :=
  { l with queue := l.queue.tail, contention := .unfixed, followOn := false }

/-- The follow-on of a notice that leaves enters the freed slot as a new request (R170). -/
def LineInterface.followOnEnters (l : LineInterface) (r : Request) (followOn : Bool) : LineInterface :=
  if followOn then l.enter r else l

/-- A pending request of a kind held once stands in the queue: it is there and its notice is not being sent. -/
def LineInterface.pendingRequest (l : LineInterface) (r : Request) : Bool :=
  l.holds r && decide (l.sendingRequest ≠ some r)

/-- The owner withdraws its pending request, wherever it stands; a follow-on of a WARMTH counts as pending (R148, R179).
Where the fixed head is withdrawn the next request is fixed at once if the line has been idle for 4 byte times. -/
def withdraw (r : Request) (s : State) : State :=
  if decide (s.line.sendingRequest = some r) then { s with line := { s.line with followOn := false } }
  else
    match s.line.contention, s.line.queue with
    | .fixed _ _ _, x :: rest =>
      if x.request = r then fixHead { s with line := s.line.dropHead }
      else { s with line := { s.line with queue := x :: rest.filter (fun q => decide (q.request ≠ r)) } }
    | _, all => { s with line := { s.line with queue := all.filter (fun q => decide (q.request ≠ r)) } }

end Sys2Proof.Machine
end

