-- ==== Sys2Proof/Machine/SchedulerOps.lean ====
section
/-! DEFINITION. Operations of the Probe Scheduler (R44 to R57). -/

namespace Sys2Proof.Machine

/-- Replace the Probe Scheduler's state. -/
def State.withSched (s : State) (x : Scheduler) : State := { s with sched := x }

/-- A jitter of so many units of 10 ms, in ticks (R46). -/
def jitterTicks (units : Nat) : Nat := units * 160

/-- The interval of a mode, in ticks, and the largest jitter draw (R46). -/
def probeInterval : Mode → Nat × Nat
  | .normal => (seconds 240, 3000)
  | .brisk => (seconds 20, 250)

/-- Return to RESTING with a probe timer loaded with the mode's interval and a jitter drawn (R46). -/
def restWithNewProbe (s : State) : State :=
  let (interval, jitter) := probeInterval s.sched.mode
  s.afterDraw.withSched
    { s.sched with
      state := .resting, wait := none, deadline := none, retry := none,
      probe := some (interval + jitterTicks (s.drawValue jitter)) }

/-- The reload of R49: a fresh brisk length is drawn and taken where the running probe timer is longer. -/
def reloadForBrisk (s : State) : State :=
  let fresh := seconds 20 + jitterTicks (s.drawValue 250)
  s.afterDraw.withSched
    { s.sched with probe := s.sched.probe.map (fun left => if fresh < left then fresh else left) }

/-- A cause of BRISK with its duration in ticks (R47 to R49). -/
def enterBrisk (duration : Nat) (s : State) : State :=
  match s.sched.mode with
  | .brisk => s.withSched { s.sched with brisk := some (max (s.sched.brisk.getD 0) duration) }
  | .normal =>
    let entered := s.withSched { s.sched with mode := .brisk, brisk := some duration }
    match s.sched.state with
    | .resting => reloadForBrisk entered
    | .wanting | .probing => entered

/-- The retry delay is started with a draw of 0..15 slots (R54). -/
def startRetryDelay (s : State) : State :=
  s.afterDraw.withSched { s.sched with wait := some .delay, retry := some (s.drawValue 15 * slotTicks) }

/-- "Listed" reaches the scheduler (R53). -/
def schedListed (s : State) : State :=
  match s.sched.state with
  | .probing => s
  | .resting | .wanting =>
    s.withSched { s.sched with state := .probing, probe := none, wait := none, deadline := none, retry := none }

/-- "Not admitted" reaches the scheduler (R53, R54). -/
def schedNotAdmitted (s : State) : State :=
  match s.sched.state, s.sched.wait with
  | .wanting, some .queued =>
    match s.round.phase with
    | .none => startRetryDelay s
    | .opening | .chips | .settle => s.withSched { s.sched with wait := some .closeWait }
  | _, _ => s

/-- The close of a followed round reaches the scheduler (R53, R54, R57). -/
def schedClose (s : State) : State :=
  match s.sched.state, s.sched.wait with
  | .probing, _ => restWithNewProbe s
  | .wanting, some .closeWait => startRetryDelay s
  | _, _ => s

/-- The guard has not begun: slots 0 to 11, and the instant at which slot 12 starts as long as GUARD_START is not taken
(R19, R20). -/
def RoundController.beforeGuard (r : RoundController) : Bool := decide (r.timer.slot < 12) || !r.timer.guardPassed

/-- The round view admits a request at the queueing decision (R52). At the instant at which slot 12 starts it does so as
long as GUARD_START is not taken (DEDUCED, log entry 38). -/
def RoundController.admitsRequest (r : RoundController) : Bool :=
  match r.phase with
  | .none => true
  | .opening => r.beforeGuard && decide (r.probers.length < 6)
  | .chips | .settle => false

/-- The queueing decision (R52). -/
def queueingDecision (s : State) : State :=
  if s.inListenOnly then
    s.withSched { s.sched with wait := some .delay, retry := some (s.line.listenOnly.getD 0) }
  else if s.round.admitsRequest then
    offer .callJoin (s.withSched { s.sched with wait := some .queued, retry := none })
  else s.withSched { s.sched with wait := some .closeWait, retry := none }

end Sys2Proof.Machine
end

