-- ==== Sys2Proof/Machine/ZoneMemoryOps.lean ====
section
/-! DEFINITION. Operations of Zone Memory: the zone record, save requests and the start of a save, the page cycle and
what a reset leaves of it (R184 to R191). -/

namespace Sys2Proof.Machine

/-- Replace Zone Memory's state. -/
def State.withMemory (s : State) (x : ZoneMemory) : State := { s with memory := x }

/-- The linked entries: LINKED, FALLING and RESUMED (R58). -/
def Link.isLinked : Link → Bool
  | .linked | .falling | .resumed => true
  | .apart | .rising => false

/-- The pair value: the lower of seen and told, absent when either is (R64). -/
def Entry.pairValue (e : Entry) : Option Nat :=
  match e.seen, e.told with
  | some a, some b => some (min a b)
  | _, _ => none

/-! ### The zone record (R184, R189) -/

/-- An entry's order in the record: descending pair value, absent ones after all others (R189). -/
def recordBefore (a b : Entry) : Bool :=
  match a.pairValue, b.pairValue with
  | some p, some q => decide (q ≤ p)
  | some _, none => true
  | none, none => true
  | none, some _ => false

/-- Insert an entry after those of equal value. -/
def insertRecord (e : Entry) : List Entry → List Entry
  | [] => [e]
  | x :: rest => if recordBefore x e then x :: insertRecord e rest else e :: x :: rest

/-- Entries in record order; entries of equal value stay in the order given, which is slot order. -/
def recordOrder (entries : List Entry) : List Entry :=
  entries.foldl (fun sorted e => insertRecord e sorted) []

/-- The five bytes of a link position: station, then pair value or FFFF (R184). -/
def linkPosition (e : Entry) : List Byte :=
  stationBytes e.station ++ halfBytes (match e.pairValue with | some p => BitVec.ofNat 16 p | none => 0xFFFF)

/-- The sum of some bytes, each as an unsigned value (R184). -/
def byteSum (bytes : List Byte) : Nat := (bytes.map BitVec.toNat).sum

/-- Bytes 0..89 of the record. -/
def recordBody (working : Station) (setpoint : Int) (setback task : Nat) (linked : List Entry) : List Byte :=
  let positions := (recordOrder linked).flatMap linkPosition
  0x5A :: (stationBytes working ++ halfBytes (BitVec.ofInt 16 setpoint) ++ [BitVec.ofNat 8 setback] ++
    halfBytes (BitVec.ofNat 16 task) ++ [BitVec.ofNat 8 linked.length] ++ positions ++
    List.replicate (80 - positions.length) 0)

/-- The snapshot: the complete record of the state as it stands (R189). -/
def State.snapshotNow (s : State) : List Byte :=
  let body := recordBody s.zone.working s.climate.setpoint s.climate.setback s.light.task
    ((entriesOf s.table.slots).filter (fun e => e.link.isLinked))
  body ++ halfBytes (BitVec.ofNat 16 (byteSum body))

/-! ### Save requests (R187 to R189) -/

/-- A save starts: snapshot taken, pending save cleared, hold-off cancelled, engine SAVING (R189). -/
def startSave (s : State) : State :=
  s.withMemory
    { s.memory with snapshot := some s.snapshotNow, pendingSave := false, linkHoldOff := none, engine := .saving 0 }

/-- A save request is taken (R188). -/
def saveRequest (s : State) : State :=
  if s.memory.pendingSave then s
  else
    match s.memory.engine, s.memory.rest with
    | .idle, none => startSave s
    | _, _ => s.withMemory { s.memory with pendingSave := true }

/-- A pending save starts when the engine is IDLE and the rest timer stopped (R188). -/
def startPendingSave (s : State) : State :=
  match s.memory.pendingSave, s.memory.engine, s.memory.rest with
  | true, .idle, none => startSave s
  | _, _, _ => s

/-- A link up, or a link down FALLEN or LOST, at Zone Memory: it starts or restarts the hold-off once the start-up hold
has ended (R115, R187). -/
def memoryLinkEvent (s : State) : State :=
  if s.zone.hold.isSome then s else s.withMemory { s.memory with linkHoldOff := some (seconds 90) }

/-! ### The page cycle (R190) -/

/-- The pages after a whole save: each erased, then programmed with the snapshot, page 1 from byte 31 down to the marker. -/
def Memory.writeRecord (m : Memory) (snapshot : List Byte) : Memory :=
  let m := (m.erasePage 1).erasePage 2
  let m := (m.programAll 64 ((snapshot.drop 32).take 32)).erasePage 3
  let m := m.programAll 96 ((snapshot.drop 64).take 28)
  m.programDown 32 (snapshot.take 32)

/-- The pages after a whole clear. -/
def Memory.clearRecord (m : Memory) : Memory := ((m.erasePage 1).erasePage 2).erasePage 3

/-- Ticks of a page erase and of a page programming (R190). -/
def eraseTicks : Nat := milliseconds 8

/-- Ticks of a page programming (R190). -/
def programTicks : Nat := milliseconds 4

/-- Ticks of a whole save and of a whole clear (R190). -/
def saveTicks : Nat := 3 * eraseTicks + 3 * programTicks

/-- Ticks of a whole clear (R190). -/
def clearTicks : Nat := 3 * eraseTicks

/-- A page whose erase was cut: any bits may have been raised, none lowered (R191). -/
def Memory.cutErase (m : Memory) (page free : Nat) : Memory :=
  if page = 0 then m
  else (List.range 32).foldl
    (fun m i => m.write (32 * page + i) (m.read (32 * page + i) ||| Config.cutBits (free + i))) m

/-- Erased bytes whose programming was cut: any bits may still be at 1 (R191). -/
def Memory.cutProgram (m : Memory) (address : Nat) (values : List Byte) (free : Nat) : Memory :=
  (List.range values.length).foldl
    (fun m i => m.program (address + i) (values.getD i erasedByte ||| Config.cutBits (free + i))) m

/-- The marker byte while it is not complete: FF, or some bits of 5A not yet programmed (R190, R191). -/
def cutMarker (free : Nat) : Byte :=
  let v := 0x5A ||| Config.cutBits free
  if v = 0x5A then 0xFF else v

/-- What a reset leaves of the last step of a save: the bytes above the one in progress hold the snapshot, the one in
progress any of its bits not yet programmed, the bytes below are erased (R190, R191). Which one is in progress is free. -/
def Memory.cutMarkerPage (m : Memory) (values : List Byte) (free : Nat) : Memory :=
  let place := Config.cutPlace free % 32
  let above := m.programDown (32 + place + 1) (values.drop (place + 1))
  above.program (32 + place)
    (if place = 0 then cutMarker free else values.getD place erasedByte ||| Config.cutBits free)

/-- What a reset leaves of a save cut after some ticks (R190, R191). -/
def Memory.cutSave (m : Memory) (snapshot : List Byte) (elapsed free : Nat) : Memory :=
  let two := (m.erasePage 1).erasePage 2
  let three := (two.programAll 64 ((snapshot.drop 32).take 32)).erasePage 3
  let five := three.programAll 96 ((snapshot.drop 64).take 28)
  if elapsed = 0 then m
  else if elapsed < eraseTicks then m.cutErase 1 free
  else if elapsed < 2 * eraseTicks then (m.erasePage 1).cutErase 2 free
  else if elapsed < 2 * eraseTicks + programTicks then two.cutProgram 64 ((snapshot.drop 32).take 32) free
  else if elapsed < 3 * eraseTicks + programTicks then
    (two.programAll 64 ((snapshot.drop 32).take 32)).cutErase 3 free
  else if elapsed < 3 * eraseTicks + 2 * programTicks then three.cutProgram 96 ((snapshot.drop 64).take 28) free
  else five.cutMarkerPage (snapshot.take 32) free

/-- What a reset leaves of a clear cut after some ticks (R190, R191). -/
def Memory.cutClear (m : Memory) (elapsed free : Nat) : Memory :=
  if elapsed = 0 then m
  else if elapsed < eraseTicks then m.cutErase 1 free
  else if elapsed < 2 * eraseTicks then (m.erasePage 1).cutErase 2 free
  else ((m.erasePage 1).erasePage 2).cutErase 3 free

/-- The pages a reset leaves (R186, R191). -/
def ZoneMemory.afterReset (z : ZoneMemory) (free : Nat) : Memory :=
  match z.engine with
  | .idle => z.nv
  | .saving elapsed => z.nv.cutSave (z.snapshot.getD []) elapsed free
  | .clearing elapsed => z.nv.cutClear elapsed free

/-! ### Restore (R184, R185) -/

/-- The record area holds a good record (R184). -/
def Memory.goodRecord (m : Memory) : Bool :=
  decide (m.read 32 = 0x5A) && decide ((m.read 41).toNat ≤ 16) &&
    decide (byteSum (m.bytes 32 90) = (toHalf (m.read 122) (m.read 123)).toNat)

/-- The working root of the record. -/
def Memory.recordWorking (m : Memory) : Station := toStation (m.read 33) (m.read 34) (m.read 35)

/-- The local setpoint of the record, signed. -/
def Memory.recordSetpoint (m : Memory) : Int := (toHalf (m.read 36) (m.read 37)).toInt

/-- The setback of the record. -/
def Memory.recordSetback (m : Memory) : Nat := (m.read 38).toNat

/-- The task level of the record. -/
def Memory.recordTask (m : Memory) : Nat := (toHalf (m.read 39) (m.read 40)).toNat

/-- Link positions 1..link count of the record: station and pair value field. -/
def Memory.recordLinks (m : Memory) : List (Station × Half) :=
  (List.range (m.read 41).toNat).map (fun i =>
    (toStation (m.read (42 + 5 * i)) (m.read (43 + 5 * i)) (m.read (44 + 5 * i)),
     toHalf (m.read (45 + 5 * i)) (m.read (46 + 5 * i))))

end Sys2Proof.Machine
end

