-- ==== Sys2Proof/Machine/LightOps.lean ====
section
/-! DEFINITION. Operations of the Lighting Unit: presence, the zone occupancy state, the fade and the output stage
(R120 to R141). -/

namespace Sys2Proof.Machine

/-- Replace the Lighting Unit's state. -/
def State.withLight (s : State) (x : Lighting) : State := { s with light := x }

/-- The time between two samples of the occupancy pin: 10 ms in the level modes, one tick in pulse mode; a disabled input
is not sampled (R122). -/
def State.samplePeriod (s : State) : Timer :=
  match s.occMode with
  | 0 | 1 => some (milliseconds 10)
  | 2 => some 1
  | _ => none

/-- The target a zone occupancy state and a task level give (R120, R131, R134). -/
def targetOf (occupancy : Occupancy) (task : Nat) : Nat :=
  match occupancy with
  | .vacant => 0
  | .occupied => task
  | .grace => task / 3

/-- A zone presence: OCCUPIED, hold timer with H, grace cancelled, target the task level (R131). -/
def zonePresence (s : State) : State :=
  match s.light.occupancy with
  | .occupied => s.withLight { s.light with holdTimer := some s.holdTime }
  | .vacant | .grace =>
    s.withLight
      { s.light with occupancy := .occupied, holdTimer := some s.holdTime, graceTimer := none, target := s.light.task }

/-- The PRESENCE decision of a local presence queues a request (R126). -/
def State.presenceDue (s : State) : Bool :=
  !s.inListenOnly && (decide (s.light.occupancy ≠ .occupied) || s.light.presenceSpacing.isNone)

/-- A local presence: the PRESENCE decision, then a zone presence (R126). -/
def localPresence (s : State) : State :=
  zonePresence (if s.presenceDue then offer .presence s else s)

/-- A PRESENCE taken: a zone presence when its zone is the working root (R129). -/
def takePresence (zone : Station) (s : State) : State :=
  if zone = s.zone.working then zonePresence s else s

/-- The task level takes a value, and the target is formed again where it is new (R134). -/
def setTask (task : Nat) (s : State) : State :=
  if task = s.light.task then s
  else s.withLight { s.light with task := task, target := targetOf s.light.occupancy task }

/-- The compare value of a level for a reload value R (R139). -/
def compareOf (reload level : Nat) : Nat := reload + level * (1024 - reload) / 1000

/-- The compare value of a level at this node. -/
def State.compare (s : State) (level : Nat) : Nat := compareOf s.reload level

/-- Load a level's compare value into the buffered compare (R140). -/
def loadCompare (level : Nat) (s : State) : State :=
  s.withLight { s.light with buffered := s.compare level }

/-- One fade step toward the target: up by 10 or down by 2; a changed level is loaded (R135). -/
def fadeStep (s : State) : State :=
  let next := moveToward s.light.output s.light.target 10 2
  if next = s.light.output then s
  else loadCompare next (s.withLight { s.light with output := next })

end Sys2Proof.Machine
end

