-- ==== Sys2Proof/Machine/ClimateOps.lean ====
section
/-! DEFINITION. Operations of the Climate Unit: the reading, the warmth roster, the setpoints and the control law
(R142 to R161). -/

namespace Sys2Proof.Machine

/-- Replace the Climate Unit's state. -/
def State.withClimate (s : State) (x : Climate) : State := { s with climate := x }

/-! ### The reading (R145) -/

/-- A raw code trimmed and limited to 0..4095. -/
def trimmed (trim : Int) (c : AdcCode) : Int := clampInt 0 4095 (c.toNat + trim)

/-- The temperature of eight raw codes, in signed tenths of a degree. -/
def temperatureOf (trim : Int) (codes : List AdcCode) : Int :=
  (codes.map (trimmed trim)).sum * 1000 / 32768 - 200

/-- A burst is valid when none of its raw codes is 0 or 4095. -/
def burstValid (codes : List AdcCode) : Bool := codes.all (fun c => decide (c ≠ 0) && decide (c ≠ 4095))

/-! ### The warmth roster (R149 to R152) -/

/-- The slot of the oldest entry: the highest age, and of equal ages the lowest slot (R151). -/
def oldestSlot (roster : List (Option RosterEntry)) : Option Nat :=
  ((List.range roster.length).foldl
    (fun best i =>
      match slotAt roster i, best with
      | none, _ => best
      | some e, none => some (i, e.age)
      | some e, some (_, age) => if age < e.age then some (i, e.age) else best)
    (none : Option (Nat × Nat))).map Prod.fst

/-- Write a station's temperature: its own entry, or the lowest empty slot, or in place of the oldest entry (R151). -/
def writeRoster (station : Station) (temperature : Int) (roster : List (Option RosterEntry)) : List (Option RosterEntry) :=
  let entry : RosterEntry := ⟨station, temperature, 0⟩
  match findSlot roster (fun e => decide (e.station = station)) with
  | some i => roster.set i (some entry)
  | none =>
    match emptySlot roster with
    | some i => roster.set i (some entry)
    | none =>
      match oldestSlot roster with
      | some i => roster.set i (some entry)
      | none => roster

/-- Write the roster of a terminal node. -/
def reportTemperature (station : Station) (temperature : Int) (s : State) : State :=
  s.withClimate { s.climate with roster := writeRoster station temperature s.climate.roster }

/-- A WARMTH taken (R150). -/
def takeWarmth (sender zone : Station) (temperature : Int) (s : State) : State :=
  if s.terminal && !isTool sender && decide (-200 ≤ temperature) && decide (temperature ≤ 799) &&
      decide (zone = s.zone.working) then
    reportTemperature sender temperature s
  else s

/-- The eight codes of a burst reach the unit: a valid burst makes a reading (R145, R146, R152). -/
def takeBurst (codes : List AdcCode) (s : State) : State :=
  if burstValid codes then
    let t := temperatureOf s.memory.nv.trim codes
    let read := s.withClimate { s.climate with reading := some t, readingHold := some (seconds 180) }
    if s.terminal then reportTemperature s.station t read else read
  else s

/-- The roster is emptied by a zone change (R154). -/
def emptyRoster (s : State) : State :=
  if s.terminal then s.withClimate { s.climate with roster := List.replicate 24 none } else s

/-! ### Setpoints and the control law (R156 to R159) -/

/-- The root-list entry of a root. -/
def rootEntry (roots : List (Option RootEntry)) (root : Station) : Option RootEntry :=
  (entriesOf roots).find? (fun e => decide (e.root = root))

/-- The zone setpoint and zone setback (R156). -/
def State.zoneSetpoint (s : State) : Int × Int :=
  match rootEntry s.election.roots s.zone.working with
  | some e => (clampInt 150 300 e.setpoint, clampInt 0 60 e.setback)
  | none => (s.climate.setpoint, s.climate.setback)

/-- The effective setpoint (R156). -/
def State.effectiveSetpoint (s : State) : Int :=
  let (setpoint, setback) := s.zoneSetpoint
  match s.light.occupancy with
  | .vacant => setpoint + setback
  | .occupied | .grace => setpoint

/-- The mean of temperatures, rounded toward zero (R157). -/
def meanOf (temperatures : List Int) : Int := temperatures.sum.tdiv temperatures.length

/-- The demand of an error in tenths of a degree (R158). -/
def demandOf (e : Int) : Nat :=
  if e ≤ 0 then 38 else if 20 ≤ e then 255 else 38 + e.toNat * 217 / 20

/-- The control step of a terminal node (R157 to R159). -/
def controlLaw (s : State) : State :=
  match entriesOf s.climate.roster with
  | [] => s
  | entries =>
    let mean := meanOf (entries.map (fun e => e.temperature))
    let demand := demandOf (mean - s.effectiveSetpoint)
    s.withClimate { s.climate with lastMean := some mean, damper := moveToward s.climate.damper demand 24 24 }

end Sys2Proof.Machine
end

