-- ==== Sys2Proof/Machine/ElectionOps.lean ====
section
/-! DEFINITION. Operations of the Working Zone Unit (R107 to R116) and of the Zone Election Unit: the root list,
currentness, derivation, root duty and the announcement (R83 to R106). -/

namespace Sys2Proof.Machine

/-! ### Working Zone Unit -/

/-- Replace the Working Zone Unit's state. -/
def State.withZone (s : State) (x : WorkingZone) : State := { s with zone := x }

/-- A derived root is handed on: stored, and after the hold compared with the working root (R109, R110). -/
def handRoot (root : Station) (s : State) : State :=
  let settle :=
    if s.zone.hold.isSome then s.zone.settle
    else if root = s.zone.working then none
    else some (seconds 60)
  s.withZone { s.zone with derivedCopy := root, settle := settle }

/-- A zone change to a new working root: a PRESENCE is queued when presence is held, the roster is emptied, and Zone
Memory takes a save request unless FORGET made the change (R112, R128). -/
def zoneChange (root : Station) (save : Bool) (s : State) : State :=
  let moved := s.withZone { s.zone with working := root }
  let lit := if s.light.held then offer .presence moved else moved
  let cleared := emptyRoster lit
  if save then saveRequest cleared else cleared

/-! ### Zone Election Unit -/

/-- Replace the Zone Election Unit's state. -/
def State.withElection (s : State) (x : Election) : State := { s with election := x }

/-- A claim is current: its root is in the root list, and its generation is the latest or the one before it (R88). -/
def isCurrent (roots : List (Option RootEntry)) (c : Claim) : Bool :=
  match rootEntry roots c.root with
  | none => false
  | some e => decide (c.generation = e.generation) || decide (c.generation = e.generation - 1)

/-- A candidate of a derivation (R90): the claim it offers, its parent, and whether its generation is its root's latest. -/
structure Candidate where
  claim : Claim
  parent : Option Station
  latest : Bool
  deriving DecidableEq, Repr

/-- The own candidate (R90). -/
def State.ownCandidate (s : State) : Candidate :=
  { claim := ⟨s.station, 0, s.election.ownGeneration⟩, parent := none, latest := true }

/-- The candidate of an entry, where it is linked and its claim present, current and of hops 14 or fewer (R90). -/
def candidateOf (roots : List (Option RootEntry)) (e : Entry) : Option Candidate :=
  match e.claim with
  | none => none
  | some c =>
    if e.link.isLinked && isCurrent roots c && decide (c.hops ≤ 14) then
      some { claim := ⟨c.root, c.hops + 1, c.generation⟩, parent := some e.station,
             latest := (rootEntry roots c.root).any (fun r => decide (r.generation = c.generation)) }
    else none

/-- The candidates of a derivation (R90). -/
def State.candidates (s : State) : List Candidate :=
  s.ownCandidate :: (entriesOf s.table.slots).filterMap (candidateOf s.election.roots)

/-- A candidate is preferred to another by the four tests in order (R91). -/
def Candidate.beats (a b : Candidate) : Bool :=
  if a.claim.root ≠ b.claim.root then decide (a.claim.root < b.claim.root)
  else if a.claim.hops ≠ b.claim.hops then decide (a.claim.hops < b.claim.hops)
  else if a.latest ≠ b.latest then a.latest
  else
    match a.parent, b.parent with
    | some p, some q => decide (p < q)
    | _, _ => false

/-- The best candidate (R91). -/
def State.bestCandidate (s : State) : Candidate :=
  s.candidates.foldl (fun best c => if c.beats best then c else best) s.ownCandidate

/-- The announcement check (R98). -/
def announcementCheck (s : State) : State :=
  if s.election.announced = some s.election.derived then s
  else if s.phase ≠ .running then s
  else if s.election.claimSpacing.isSome then s
  else offer .claim s

/-- Root duty after a change of the derived root (R93, R95). -/
def rootDuty (before after : Station) (s : State) : State :=
  if before = after then s
  else if after = s.station then s.withElection { s.election with generationTimer := some (seconds 30) }
  else if before = s.station then s.withElection { s.election with generationTimer := none }
  else s

/-- A new derived claim replaces the one held, and its three matters are acted on (R93). The announcement check is made after
a change of the parent alone too (DEDUCED, log entry 37). -/
def takeDerived (c : Candidate) (s : State) : State :=
  let before := s.election.derived.root
  let held := s.withElection { s.election with derived := c.claim, parent := c.parent }
  let handed := if before = c.claim.root then held else handRoot c.claim.root held
  announcementCheck (rootDuty before c.claim.root handed)

/-- A derivation; none runs before the end of listen-only (R90 to R93). -/
def derive (s : State) : State :=
  if s.phase ≠ .running then s
  else
    let best := s.bestCandidate
    if best.claim = s.election.derived ∧ best.parent = s.election.parent then s
    else takeDerived best s

/-- The derivation at the end of listen-only (R105). -/
def firstDerivation (s : State) : State :=
  let best := s.bestCandidate
  let before := s.election.derived.root
  let held := s.withElection { s.election with derived := best.claim, parent := best.parent }
  let handed :=
    if before ≠ best.claim.root ∨ best.claim.root ≠ s.zone.working then handRoot best.claim.root held else held
  let duty :=
    if best.claim.root = s.station then
      handed.withElection { handed.election with generationTimer := some (seconds 30) }
    else handed
  announcementCheck duty

/-! ### The root list (R84 to R86) -/

/-- An entry may give way: its root is neither the working root nor the derived root (R85). -/
def State.evictable (s : State) (e : RootEntry) : Bool :=
  decide (e.root ≠ s.zone.working) && decide (e.root ≠ s.election.derived.root)

/-- The slot and root of the victim: the evictable entry with the highest root (R85). -/
def State.rootVictim (s : State) : Option (Nat × Station) :=
  (List.range s.election.roots.length).foldl
    (fun best i =>
      match slotAt s.election.roots i, best with
      | none, _ => best
      | some e, none => if s.evictable e then some (i, e.root) else none
      | some e, some (j, r) => if s.evictable e && decide (r < e.root) then some (i, e.root) else some (j, r))
    none

/-- A hops-0 CLAIM at the root list: the list after it, and whether it calls for a derivation (R84, R85). -/
def State.rootsAfterClaim (s : State) (e : RootEntry) : List (Option RootEntry) × Bool :=
  let roots := s.election.roots
  match findSlot roots (fun x => decide (x.root = e.root)) with
  | some i => (roots.set i (some e), (slotAt roots i).any (fun x => decide (x.generation ≠ e.generation)))
  | none =>
    match emptySlot roots with
    | some i => (roots.set i (some e), true)
    | none =>
      match s.rootVictim with
      | some (i, r) => if e.root < r then (roots.set i (some e), true) else (roots, false)
      | none => (roots, false)

/-- Remove the entry of a slot where its age has reached 100, and derive again (R86). -/
def ageOutRoot (s : State) (i : Nat) : State :=
  match slotAt s.election.roots i with
  | some e => if 100 ≤ e.age then derive (s.withElection { s.election with roots := s.election.roots.set i none }) else s
  | none => s

/-- One expiry of the age second (R86). -/
def ageRoots (s : State) : State :=
  let aged := s.withElection
    { s.election with
      roots := s.election.roots.map (fun x => x.map (fun e => { e with age := e.age + 1 })),
      ageSecond := some (seconds 1) }
  (List.range 16).foldl ageOutRoot aged

end Sys2Proof.Machine
end

