-- ==== Sys2Proof/Machine/TableOps.lean ====
section
/-! DEFINITION. Operations of the Neighbour Table: storing seen and told values, the link state machine, admission and
eviction, ageing, shifts, claims, TALLY (R58 to R82). -/

namespace Sys2Proof.Machine

/-- Replace the Neighbour Table's state. -/
def State.withTable (s : State) (x : NeighbourTable) : State := { s with table := x }

/-- Put an entry into a slot, or empty it. -/
def State.withSlot (s : State) (i : Nat) (e : Option Entry) : State :=
  s.withTable { s.table with slots := s.table.slots.set i e }

/-- The slot that holds a station (R59). -/
def State.slotOf (s : State) (station : Station) : Option Nat :=
  findSlot s.table.slots (fun e => decide (e.station = station))

/-- The station is held in the table. -/
def State.tableHolds (s : State) (station : Station) : Bool := (s.slotOf station).isSome

/-! ### The link state machine (R65 to R67) -/

/-- The join threshold J and the leave threshold L of a sensitivity class (R65). -/
def thresholds : Nat → Nat × Nat
  | 0 => (480, 300)
  | 1 => (360, 220)
  | 2 => (240, 150)
  | _ => (160, 100)

/-- What an evaluation hands on (R67). -/
inductive LinkMove where
  | nothing
  | up
  | fallen
  deriving DecidableEq, Repr

/-- The move of a link for a pair value (R66). -/
def evaluateLink (join leave : Nat) (link : Link) (pair : Option Nat) : Link × LinkMove :=
  match pair with
  | none => (link, .nothing)
  | some p =>
    if join ≤ p then
      match link with
      | .apart => (.rising, .nothing)
      | .rising => (.linked, .up)
      | .linked | .falling | .resumed => (.linked, .nothing)
    else if leave ≤ p then
      match link with
      | .apart | .rising => (.apart, .nothing)
      | .linked | .falling | .resumed => (.linked, .nothing)
    else
      match link with
      | .apart | .rising => (.apart, .nothing)
      | .linked | .resumed => (.falling, .nothing)
      | .falling => (.apart, .fallen)

/-- A link up, or a link down FALLEN or LOST, is handed to Zone Memory and to the Zone Election Unit (R67). -/
def handLinkEvent (s : State) : State := derive (memoryLinkEvent s)

/-- The link of a slot is evaluated while the sensor state is OK (R66, R74). -/
def evaluateSlot (i : Nat) (s : State) : State :=
  match s.table.sensor, slotAt s.table.slots i with
  | .ok, some e =>
    let (join, leave) := thresholds s.sensClass
    let (link, move) := evaluateLink join leave e.link e.pairValue
    let moved := s.withSlot i (some { e with link := link })
    match move with
    | .nothing => moved
    | .up | .fallen => handLinkEvent moved
  | _, _ => s

/-! ### Shifts (R76, R77) -/

/-- A new seen value is a shift against the previous one (R76). -/
def isShift (new previous : Nat) : Bool :=
  decide (max 64 (previous / 4) < (if previous ≤ new then new - previous else previous - new))

/-- A shift is taken: BRISK with 600 s, and a STIR where the spacing timer is stopped and listen-only over (R76, R77). A draw
for BRISK is taken before one for a head that the STIR becomes (DESIGN CHOICE, log entry 35). -/
def takeShift (s : State) : State :=
  let told := enterBrisk (seconds 600) s
  if told.inListenOnly || told.table.stirSpacing.isSome then told
  else offer (.stir 0x01) (told.withTable { told.table with stirSpacing := some (seconds 60) })

/-! ### Storing and admission (R62, R63, R69 to R71) -/

/-- A seen value is stored in a slot (R62). -/
def storeSeen (i k : Nat) (s : State) : State :=
  match slotAt s.table.slots i with
  | none => s
  | some e =>
    let stored := s.withSlot i (some { e with previousSeen := e.seen, seen := some k, quiet := 0 })
    let shifted := if e.seen.any (fun v => isShift k v) then takeShift stored else stored
    evaluateSlot i shifted

/-- A told value is stored in a slot (R63). -/
def storeTold (i v : Nat) (s : State) : State :=
  match slotAt s.table.slots i with
  | none => s
  | some e => evaluateSlot i (s.withSlot i (some { e with told := some v, quiet := 0 }))

/-- A measured half: seen or told (R58). -/
inductive MeasuredHalf where
  | seen
  | told
  deriving DecidableEq, Repr

/-- The entry an admission makes (R69). -/
def newEntry (station : Station) (half : MeasuredHalf) (v : Nat) : Entry :=
  { station := station, seen := if half = .seen then some v else none, previousSeen := none,
    told := if half = .told then some v else none, link := .apart, claim := none, quiet := 0 }

/-- The weight of an entry: the higher of its halves, an absent one counted as 0 (R70). -/
def Entry.weight (e : Entry) : Nat := max (e.seen.getD 0) (e.told.getD 0)

/-- The slot and weight of the victim among the unlinked entries: lowest weight, of equal weights lowest slot (R70). -/
def victimSlot (slots : List (Option Entry)) : Option (Nat × Nat) :=
  (List.range slots.length).foldl
    (fun best i =>
      match slotAt slots i with
      | none => best
      | some e =>
        if e.link.isLinked then best
        else
          match best with
          | none => some (i, e.weight)
          | some (_, w) => if e.weight < w then some (i, e.weight) else best)
    none

/-- A valid value for a station not held: admission, eviction or discard (R69 to R71). This node's own station is
never held (R41, log entry 17). -/
def admission (station : Station) (half : MeasuredHalf) (v : Nat) (s : State) : State :=
  if v < 64 ∨ station = s.station then s
  else
    match emptySlot s.table.slots with
    | some i => s.withSlot i (some (newEntry station half v))
    | none =>
      match victimSlot s.table.slots with
      | some (i, w) =>
        if w < v then s.withSlot i (some (newEntry station half v))
        else s.count (fun c => { c with tableOverflows := bump c.tableOverflows })
      | none => s.count (fun c => { c with tableOverflows := bump c.tableOverflows })

/-! ### A round's results (R42, R61) -/

/-- The sensor health count takes a self-coupling (R42). -/
def takeSelfCoupling (f : Finding) (s : State) : State :=
  let good := match f with | .index k => decide (100 ≤ k) | .clipped | .noisy => false
  if good then s.withTable { s.table with suspect := 0, sensor := .ok }
  else
    let count := min 3 (s.table.suspect + 1)
    s.withTable { s.table with suspect := count, sensor := if count = 3 then .suspect else s.table.sensor }

/-- One result of another prober (R61). -/
def takeResult (s : State) (r : ProbeResult) : State :=
  match r.finding, s.table.sensor with
  | .index k, .ok =>
    match s.slotOf r.station with
    | some i => storeSeen i k s
    | none => admission r.station .seen k s
  | _, _ => s

/-- A round's results: the self-coupling first, then the others in prober-list order (R61). -/
def takeResults (results : List ProbeResult) (s : State) : State :=
  let own := s.station
  let judged :=
    match results.find? (fun r => decide (r.station = own)) with
    | some r => takeSelfCoupling r.finding s
    | none => s
  (results.filter (fun r => decide (r.station ≠ own))).foldl takeResult judged

/-! ### TALLY (R63, R79, R80) -/

/-- The value of an item (R165). -/
def itemValue : Finding → Half
  | .index k => BitVec.ofNat 16 k
  | .noisy => 0xF001
  | .clipped => 0xF002

/-- The TALLY item of one result, if it has one (R79). -/
def State.tallyItem (s : State) (r : ProbeResult) : Option (Station × Half) :=
  let reported :=
    if r.station = s.station then
      match r.finding with
      | .index k => decide (32 ≤ k)
      | .clipped | .noisy => false
    else if s.table.sensor = .suspect then false
    else
      s.tableHolds r.station ||
        match r.finding with
        | .index k => decide (32 ≤ k)
        | .clipped | .noisy => false
  if reported then some (r.station, itemValue r.finding) else none

/-- The round's TALLY is composed and offered; one without items is not composed (R79, R80). -/
def composeTally (results : List ProbeResult) (s : State) : State :=
  match results.filterMap s.tallyItem with
  | [] => s
  | items => offer (.tally items) s

/-- One item of a received TALLY (R63). -/
def takeTallyItem (sender : Station) (s : State) (item : Station × Half) : State :=
  if item.1 = s.station ∧ item.2.toNat ≤ 4095 then
    match s.slotOf sender with
    | some i => storeTold i item.2.toNat s
    | none => admission sender .told item.2.toNat s
  else s

/-- A TALLY taken; a tool's is ignored (R63). -/
def takeTally (sender : Station) (items : List (Station × Half)) (s : State) : State :=
  if isTool sender then s else items.foldl (takeTallyItem sender) s

/-! ### Ageing (R72) -/

/-- Remove the entry of a slot where its quiet has reached 15; a linked one hands a link down LOST on (R72). -/
def ageOutEntry (s : State) (i : Nat) : State :=
  match slotAt s.table.slots i with
  | some e =>
    if 15 ≤ e.quiet then
      if e.link.isLinked then handLinkEvent (s.withSlot i none) else s.withSlot i none
    else s
  | none => s

/-- One expiry of the aging minute (R72). -/
def ageTable (s : State) : State :=
  match s.table.sensor with
  | .suspect => s
  | .ok =>
    (List.range 16).foldl ageOutEntry
      (s.withTable
        { s.table with
          slots := s.table.slots.map (fun x => x.map (fun e => { e with quiet := min 255 (e.quiet + 1) })) })

/-! ### Claims and FORGET (R81, R82) -/

/-- A CLAIM at the table: stored in the sender's entry (R81). -/
def storeClaim (sender : Station) (c : Claim) (s : State) : State :=
  match s.slotOf sender with
  | none => s
  | some i =>
    match slotAt s.table.slots i with
    | none => s
    | some e => s.withSlot i (some { e with claim := some c })

/-- Storing the claim changes the claim of a linked entry (R81). -/
def State.changesLinkedClaim (s : State) (sender : Station) (c : Claim) : Bool :=
  match s.slotOf sender with
  | none => false
  | some i => (slotAt s.table.slots i).any (fun e => e.link.isLinked && decide (e.claim ≠ some c))

/-- A CLAIM taken: at the table and, for hops 0, at the root list, with one derivation after both (R81, R84, R92). -/
def takeClaim (sender : Station) (c : Claim) (values : Option (Half × Byte)) (s : State) : State :=
  let linkedChange := s.changesLinkedClaim sender c
  let stored := storeClaim sender c s
  let (roots, rootChange) :=
    match values with
    | some (setpoint, setback) =>
      s.rootsAfterClaim
        { root := c.root, generation := c.generation, setpoint := setpoint.toInt, setback := setback.toNat, age := 0 }
    | none => (s.election.roots, false)
  let both := stored.withElection { s.election with roots := roots }
  if linkedChange || rootChange then derive both else both

/-- Remove the entry of a slot for FORGET; a linked one hands a link down CLEARED to the Zone Election Unit (R82). -/
def clearEntry (s : State) (i : Nat) : State :=
  match slotAt s.table.slots i with
  | some e => if e.link.isLinked then derive (s.withSlot i none) else s.withSlot i none
  | none => s

/-- FORGET empties the table in slot order (R82). -/
def emptyTable (s : State) : State := (List.range 16).foldl clearEntry s

end Sys2Proof.Machine
end

