-- ==== Sys2Proof/Machine/RoundOps.lean ====
section
/-! DEFINITION. Operations of the Sense Unit (R26 to R43) and of the Round Controller (R2 to R25). -/

namespace Sys2Proof.Machine

/-- Replace the Round Controller's state. -/
def State.withRound (s : State) (x : RoundController) : State := { s with round := x }

/-- Replace the Sense Unit's state. -/
def State.withSense (s : State) (x : SenseUnit) : State := { s with sense := x }

/-! ### The chip codes (R23) -/

/-- The sixteen signs of a code; `true` is a "+" chip. `none` is the null code. -/
def codeSigns : Option Nat → List Bool
  | some 1 => [true, false, false, true, true, false, false, true, true, false, false, true, true, false, false, true]
  | some 2 => [true, false, true, false, false, true, false, true, true, false, true, false, false, true, false, true]
  | some 3 => [true, true, false, false, false, false, true, true, true, true, false, false, false, false, true, true]
  | some 4 => [true, false, true, false, true, false, true, false, false, true, false, true, false, true, false, true]
  | some 5 => [true, true, false, false, true, true, false, false, false, false, true, true, false, false, true, true]
  | some 6 => [true, true, true, true, false, false, false, false, false, false, false, false, true, true, true, true]
  | _ => [true, false, false, true, false, true, true, false, false, true, true, false, true, false, false, true]

/-- Chip j of a code is "+". -/
def chipRaised (code : Option Nat) (j : Nat) : Bool := (codeSigns code).getD j false

/-- A chip sum with the sign of a code's chip (R33). -/
def signedSum (code : Option Nat) (j sum : Nat) : Int := if chipRaised code j then (sum : Int) else -(sum : Int)

/-! ### Sampling (R30, R33, R34) -/

/-- What SAMPLING holds at its start (R30). -/
def Sampling.start (records : List ProberRecord) (own : Option Nat) : Sampling :=
  { records := records, own := own, chip := 0, codes := [], sums := [], accs := List.replicate 6 0, nullAcc := 0, clip := false }

/-- The code of a position is assigned to a listed prober (R30). -/
def Sampling.assigned (d : Sampling) (position : Nat) : Bool := d.records.any (fun r => decide (r.position = position))

/-- A formed chip sum is added into the accumulators, and the chip index advances (R33). -/
def Sampling.addChip (d : Sampling) (sum : Nat) : Sampling :=
  { d with
    codes := [], sums := d.sums ++ [sum], chip := d.chip + 1,
    accs := d.accs.mapIdx (fun i a => if d.assigned (i + 1) then a + signedSum (some (i + 1)) d.chip sum else a),
    nullAcc := d.nullAcc + signedSum none d.chip sum }

/-- A light conversion ends with a code: the clip mark, and after the fourth the chip sum (R33, R34). -/
def Sampling.takeCode (d : Sampling) (code : AdcCode) : Sampling :=
  if d.chip < 16 then
    let codes := d.codes ++ [code]
    let marked := { d with codes := codes, clip := d.clip || decide (code = 4095) }
    if codes.length = 4 then marked.addChip (codes.map BitVec.toNat).sum else marked
  else d

/-! ### The computation (R35 to R39) -/

/-- The response of a correlation, rounded toward zero (R36). -/
def responseOf (correlation : Int) : Int := correlation.tdiv 32

/-- The noise of a null correlation (R37). -/
def noiseOf (nullCorrelation : Int) : Nat := nullCorrelation.natAbs / 32

/-- The judgement of a clip mark and a noise (R38). -/
def judgementOf (clip : Bool) (noise : Nat) : Judgement :=
  if clip then .clipped else if 7 ≤ noise then .noisy else .valid

/-- The coupling index of a response for a depth and a gain (R39). -/
def couplingIndex (response : Int) (depth gain : Nat) : Nat :=
  if response ≤ 0 then 0 else min 4095 (response.toNat * 1000 / (depth * gain))

/-- The outcome of one record (R38, R39). -/
def Sampling.findingOf (d : Sampling) (gain : Nat) (r : ProberRecord) : Finding :=
  match judgementOf d.clip (noiseOf d.nullAcc) with
  | .clipped => .clipped
  | .noisy => .noisy
  | .valid => .index (couplingIndex (responseOf (d.accs.getD (r.position - 1) 0)) r.depth gain)

/-- The results of a round, in prober-list order (R40). -/
def Sampling.results (d : Sampling) (gain : Nat) : List ProbeResult :=
  d.records.map (fun r => ⟨r.station, r.position, d.findingOf gain r⟩)

/-- The Sense Unit at the start of SETTLE (R35). -/
def SenseRound.compute (gain : Nat) : SenseRound → SenseRound
  | .sampling d => .ready (d.results gain) (judgementOf d.clip (noiseOf d.nullAcc))
  | r => r

/-! ### The arbiter (R27, R28) -/

/-- The converter takes temperature conversions: outside CHIPS, and while no light conversion runs (R26 to R28). -/
def State.servesTemperature (s : State) : Bool := decide (s.round.phase ≠ .chips) && !s.sense.lightConverting

/-- A temperature conversion runs. -/
def State.temperatureConverting (s : State) : Bool := s.sense.burst.any (fun b => b.converting)

/-- A burst is asked for: none added where one is running or held; held in CHIPS, else served at once (R27, R28). -/
def requestBurst (s : State) : State :=
  match s.sense.burst with
  | some _ => s
  | none => s.withSense { s.sense with burst := some ⟨[], s.servesTemperature⟩ }

/-- Held conversions resume where the converter takes them (R26, R28). -/
def resumeBurst (s : State) : State :=
  s.withSense
    { s.sense with
      burst := s.sense.burst.map (fun b => { b with converting := b.converting || s.servesTemperature }) }

/-! ### The round view (R5, R11 to R17) -/

/-- The slot timer at the anchor (R4, R5). -/
def SlotTimer.anchored : SlotTimer := { SlotTimer.stopped with counting := true }

/-- The slot timer at the start of a slot. -/
def SlotTimer.atSlot (t : SlotTimer) (slot : Nat) : SlotTimer := { t with slot := slot, tick := 0, prescaler := 0 }

/-- Tell the Sense Unit to abandon the round (R31). -/
def abandonRound (s : State) : State :=
  match s.sense.round with
  | .sampling _ => s.withSense { s.sense with round := .idle }
  | _ => s

/-- Mark the view disordered, counting the change from clear (R12, R15, R17). -/
def markDisordered (s : State) : State :=
  if s.round.disordered then s
  else
    (s.withRound { s.round with disordered := true }).count
      (fun c => { c with disorderedRounds := bump c.disorderedRounds })

/-- A CALL taken (R11 to R13). -/
def takeCall (sender : Station) (depth : Nat) (s : State) : State :=
  match s.round.phase with
  | .none =>
    let mine := decide (sender = s.station)
    let opened := s.withRound
      { s.round with
        phase := .opening, probers := [⟨sender, depth, 1⟩], own := if mine then some 1 else none,
        disordered := false, timer := .anchored }
    if mine then schedListed opened else opened
  | .opening => markDisordered s
  | .chips => abandonRound (markDisordered s)
  | .settle => s

/-- A JOIN taken (R14 to R16). -/
def takeJoin (sender : Station) (depth position : Nat) (s : State) : State :=
  match s.round.phase with
  | .opening =>
    if position = s.round.probers.length + 1 ∧ ¬ s.round.probers.any (fun r => decide (r.station = sender)) then
      let mine := decide (sender = s.station)
      let joined := s.withRound
        { s.round with
          probers := s.round.probers ++ [⟨sender, depth, position⟩],
          own := if mine then some position else s.round.own }
      if mine then schedListed joined else joined
    else markDisordered s
  | .none | .chips | .settle => s

/-! ### Line-win of a CALL/JOIN request (R19) -/

/-- What a CALL/JOIN request becomes at line-win. -/
inductive CallJoin where
  | withdrawn (told : Bool)
  | sent (body : Body)
  deriving DecidableEq, Repr

/-- The Round Controller's decision at line-win (R19). One taken before GUARD_START at the instant of slot 12 decides at slot
11 (R20). -/
def State.callJoinDecision (s : State) : CallJoin :=
  if s.round.own.isSome then .withdrawn false
  else
    match s.round.phase with
    | .none => .sent (.call (BitVec.ofNat 8 s.depth))
    | .opening =>
      if s.round.beforeGuard ∧ s.round.probers.length < 6 then
        .sent (.join (BitVec.ofNat 8 s.depth) (BitVec.ofNat 8 (s.round.probers.length + 1)))
      else .withdrawn true
    | .chips | .settle => .withdrawn true

/-! ### The chips (R7, R24, R25) -/

/-- The chip levels of a base and a depth (R24). -/
def chipLevels (base depth : Nat) : ChipLevels :=
  if depth ≤ base then ⟨base, base, base - depth⟩ else ⟨base, base + depth, base⟩

/-- The chip override loads the level of chip j of the own code (R25). -/
def loadChip (j : Nat) (s : State) : State :=
  match s.round.override, s.round.own with
  | some levels, some position => loadCompare (if chipRaised (some position) j then levels.high else levels.low) s
  | _, _ => s

/-! ### The close (R10, R38, R40) -/

/-- The Sense Unit and the Neighbour Table at the close: results, counters, last self-coupling, TALLY (R10, R40, R41, R79).
The results and the TALLY composed of them are one delivery (DESIGN CHOICE, log entry 9). -/
def deliverResults (s : State) : State :=
  match s.sense.round with
  | .ready results judgement =>
    let counted := s.count (fun c =>
      match judgement with
      | .valid => c
      | .clipped => { c with clippedRounds := bump c.clippedRounds }
      | .noisy => { c with noisyRounds := bump c.noisyRounds })
    let own := (results.find? (fun r => decide (r.station = s.station))).map (fun r => r.finding)
    let handed := counted.withSense
      { counted.sense with round := .idle, lastSelf := if own.isSome then own else counted.sense.lastSelf }
    let stored := takeResults results handed
    if s.round.disordered then stored else composeTally results stored
  | .idle | .sampling _ => s.withSense { s.sense with round := .idle }

/-- The view returns to NONE (R10). -/
def closeView (s : State) : State :=
  s.withRound
    { s.round with
      phase := .none, probers := [], own := none, disordered := false, timer := .stopped, override := none }

end Sys2Proof.Machine
end

