-- ==== Sys2Proof/Machine/ServiceOps.lean ====
section
/-! DEFINITION. Service notices: the ANSWER pages (R196, R197), SET (R198), SURVEY (R47, R199) and FORGET (R192). -/

namespace Sys2Proof.Machine

/-! ### The ANSWER pages (R197) -/

/-- A number in two bytes. -/
def natBytes2 (n : Nat) : List Byte := halfBytes (BitVec.ofNat 16 n)

/-- A signed number in two bytes. -/
def intBytes2 (v : Int) : List Byte := halfBytes (BitVec.ofInt 16 v)

/-- A value that may be absent, with the code of its absence. -/
def optBytes2 (v : Option Nat) (absent : Nat) : List Byte := natBytes2 (v.getD absent)

/-- A signed value that may be absent: 7FFF for none. -/
def optIntBytes2 : Option Int → List Byte
  | some v => intBytes2 v
  | none => natBytes2 0x7FFF

/-- The settle time remaining in whole seconds, rounded up: 1..60 while the timer runs, 0 while it is stopped
(R107, R197, log entry 25). -/
def settleSeconds : Timer → Nat
  | none => 0
  | some ticks => max 1 ((ticks + 15999) / 16000)

/-- The codes of the mode, the scheduler state and the sensor state (R197). -/
def modeCode : Mode → Byte
  | .normal => 0
  | .brisk => 1

/-- The code of a scheduler state (R197). -/
def schedCode : SchedState → Byte
  | .resting => 0
  | .wanting => 1
  | .probing => 2

/-- The code of a sensor state (R197). -/
def sensorCode : Sensor → Byte
  | .ok => 0
  | .suspect => 1

/-- The code of a link (R197). -/
def linkCode : Link → Byte
  | .apart => 0
  | .rising => 1
  | .linked => 2
  | .falling => 3
  | .resumed => 4

/-- The code of the last self-coupling (R197). -/
def selfCode : Option Finding → Nat
  | some (.index k) => k
  | some .noisy => 0xF001
  | some .clipped => 0xF002
  | none => 0xFFFF

/-- Page 0 (R197). -/
def State.page0 (s : State) : List Byte :=
  stationBytes s.zone.working ++ stationBytes s.election.derived.root ++
    [BitVec.ofNat 8 s.election.derived.hops, s.election.derived.generation] ++
    stationBytes (s.election.parent.getD 0) ++
    [BitVec.ofNat 8 (settleSeconds s.zone.settle), modeCode s.sched.mode, schedCode s.sched.state, sensorCode s.table.sensor] ++
    natBytes2 (selfCode s.sense.lastSelf) ++ natBytes2 s.straps.toNat

/-- One table slot of pages 1 to 4 (R197). -/
def slotBytes : Option Entry → List Byte
  | some e => stationBytes e.station ++ optBytes2 e.seen 0xFFFF ++ optBytes2 e.told 0xFFFF ++ [linkCode e.link]
  | none => stationBytes 0 ++ natBytes2 0xFFFF ++ natBytes2 0xFFFF ++ [0]

/-- Pages 1 to 4: table slots 4(p-1) to 4p-1 (R197). -/
def State.tablePage (s : State) (p : Nat) : List Byte :=
  (List.range 4).flatMap (fun i => slotBytes (slotAt s.table.slots (4 * (p - 1) + i)))

/-- One root-list slot of pages 5 and 6 (R197). -/
def rootBytes : Option RootEntry → List Byte
  | some e => stationBytes e.root ++ [e.generation]
  | none => stationBytes 0 ++ [0]

/-- Pages 5 and 6: root-list slots 0..7 or 8..15 (R197). -/
def State.rootPage (s : State) (p : Nat) : List Byte :=
  (List.range 8).flatMap (fun i => rootBytes (slotAt s.election.roots (8 * (p - 5) + i)))

/-- Page 7: the eight counters (R182, R197). -/
def State.counterPage (s : State) : List Byte :=
  let c := s.line.counters
  [c.lineDrops, c.queueRefusals, c.badNotices, c.tableOverflows, c.missedTurns, c.noisyRounds, c.clippedRounds,
    c.disorderedRounds].flatMap natBytes2

/-- Page 8 (R161, R197). -/
def State.climatePage (s : State) : List Byte :=
  optIntBytes2 s.climate.lastMean ++ intBytes2 s.effectiveSetpoint ++ [BitVec.ofNat 8 s.climate.damper] ++
    [BitVec.ofNat 8 (entriesOf s.climate.roster).length] ++ optIntBytes2 s.climate.reading

/-- The content of a page; none outside 0..8 (R196, R197). -/
def State.pageContent (s : State) (page : Nat) : List Byte :=
  if page = 0 then s.page0
  else if page ≤ 4 then s.tablePage page
  else if page ≤ 6 then s.rootPage page
  else if page = 7 then s.counterPage
  else if page = 8 then s.climatePage
  else []

/-- An ASK taken: its ANSWER is composed and offered (R196). -/
def takeAsk (target : Station) (page : Byte) (s : State) : State :=
  if target = s.station then offer (.answer page (s.pageContent page.toNat)) s else s

/-! ### SET, SURVEY and FORGET -/

/-- The item of a SET takes its clamped value (R198). -/
def setItem (item : Nat) (value : Int) (s : State) : State :=
  match item with
  | 1 => setTask (clampInt 0 1000 value).toNat s
  | 2 => s.withClimate { s.climate with setpoint := clampInt 150 300 value }
  | 3 => s.withClimate { s.climate with setback := (clampInt 0 60 value).toNat }
  | _ => s

/-- A SET taken: the item takes its value, then Zone Memory a save request (R187, R198). -/
def takeSet (target : Station) (item : Byte) (value : Half) (s : State) : State :=
  if target = s.station then saveRequest (setItem item.toNat value.toInt s) else s

/-- The minutes of a SURVEY, taken within 1..60 (R47). -/
def surveyMinutes (minutes : Byte) : Nat := max 1 (min 60 minutes.toNat)

/-- A SURVEY taken: BRISK for the longer of its minutes and 600 s (R47). -/
def takeSurvey (minutes : Byte) (s : State) : State :=
  enterBrisk (seconds (max (surveyMinutes minutes * 60) 600)) s

/-- A STIR taken: from a station held in the table it enters or extends BRISK (R78). -/
def takeStir (sender : Station) (s : State) : State :=
  if s.tableHolds sender then enterBrisk (seconds 600) s else s

/-- FORGET at the Working Zone Unit: own station, settle cancelled, hold started afresh; a zone change where the
working root was another station (R116). -/
def forgetZone (s : State) : State :=
  let restarted := s.withZone { s.zone with settle := none, hold := some (seconds 90) }
  if s.zone.working = s.station then restarted else zoneChange s.station false restarted

/-- FORGET at the save engine (R192). -/
def forgetRecord (s : State) : State :=
  let base := { s.memory with pendingSave := false, linkHoldOff := none }
  match s.memory.engine with
  | .idle => s.withMemory { base with engine := .clearing 0 }
  | .saving _ => s.withMemory { base with pendingClear := true }
  | .clearing _ => s.withMemory base

/-- A FORGET taken: the table, the Working Zone Unit and the scheduler take it without an order among them, and Zone
Memory serves it (R192). -/
def takeForget (target : Station) (s : State) : State :=
  if target = s.station then
    anyOrder emptyTable forgetZone (enterBrisk (seconds 600)) (forgetRecord s)
  else s

end Sys2Proof.Machine
end

