-- ==== Sys2Proof/Machine/LineOps.lean ====
section
/-! DEFINITION. The line: notices taken and delivered (R166, R168), line-win, loss, completion with loopback, and the
idle times (R162, R163, R172 to R178). -/

namespace Sys2Proof.Machine

/-- Replace the Line Interface's state. -/
def State.withLine (s : State) (x : LineInterface) : State := { s with line := x }

/-! ### Notices taken -/

/-- A notice is handed to the blocks that own its kind (R168). -/
def deliver (n : Notice) (s : State) : State :=
  match n.body with
  | .call d => takeCall n.sender d.toNat s
  | .join d p => takeJoin n.sender d.toNat p.toNat s
  | .tally items => takeTally n.sender items s
  | .stir _ => takeStir n.sender s
  | .survey m => takeSurvey m s
  | .claim r h g values => takeClaim n.sender ⟨r, h.toNat, g⟩ values s
  | .presence z => takePresence z s
  | .warmth z t => takeWarmth n.sender z t.toInt s
  | .ask t p => takeAsk t p s
  | .answer _ _ => s
  | .set t i v => takeSet t i v s
  | .forget t => takeForget t s

/-- The end of a notice on the line: 3 byte times of idle after it (R163). While this node sends, its own clock says when the
line falls idle. -/
def lineIdleThree (s : State) : State :=
  if s.line.sendingRequest.isSome then s else s.withLine { s.line with level := .idle (3 * byteTime) }

/-- The line has been idle for 4 byte times (R162). -/
def lineIdleFour (s : State) : State :=
  if s.line.sendingRequest.isSome then s else s.withLine { s.line with level := .idle (4 * byteTime) }

/-- A verdict is acted on: counted, dropped, or delivered (R166, R168). -/
def applyVerdict (v : Verdict) (s : State) : State :=
  match v with
  | .counted => s.count (fun c => { c with badNotices := bump c.badNotices })
  | .uncounted => s
  | .passes n => deliver n s

/-- The framer takes notices: it has seen its first idle (R163), and this node does not send, for none is taken between its
own line-win and the end of its notice (R22). -/
def State.framing (s : State) : Bool := s.live && decide (s.line.framer = .ready) && s.line.sendingRequest.isNone

/-- A notice is received: taken at its end and judged (R163, R166), where the framer takes notices. -/
def receive (n : Notice) (s : State) : State :=
  if s.framing then applyVerdict (judgeNotice n) (lineIdleThree s) else s

/-- A start bit has come after the check of this node's own notice: the notice waits for the line to be idle for 3 byte times
(R177), and the framer collects what comes behind it until then (R163). -/
def State.tailDisturbed (s : State) : Bool :=
  s.live && decide (s.line.framer = .ready) && s.line.sendingRequest.isSome && s.line.sentWhole.isSome &&
    decide (s.line.level = .busy)

/-- What the framer collected is judged at its end (R163, R166). Behind this node's own notice nothing is taken before its end
(R22); what fails as broken is counted there (DEDUCED, log entry 41), and the idle that ends it is the one the completion
waits for (R177). -/
def receiveBytes (raw : Collected) (s : State) : State :=
  if s.framing then applyVerdict (judge raw) (lineIdleThree s)
  else if s.tailDisturbed && decide (judge raw = .counted) then
    applyVerdict .counted (s.withLine { s.line with level := .idle (3 * byteTime) })
  else s

/-! ### Line-win (R174) -/

/-- The time from line-win to the end of the notice's last stop bit: its bytes back to back (R162, R164). -/
def sendUnits (n : Notice) : Nat := (frameBytes n).length * byteTime

/-- The level this node drives: the bit of its notice being sent that stands on the line since line-win, and recessive after
the last bit and at any other time (R162, R174, R175). -/
def State.drives (s : State) : Wire :=
  match s.line.contention with
  | .fixed _ _ (.sending n units) => (frameBits n).getD ((sendUnits n - units) / bitTime) .recessive
  | .fixed _ _ (.counting _) | .fixed _ _ (.paused _) | .fixed _ _ .lost | .unfixed => .recessive

/-- The head's notice begins: one more attempt, and the line carries it (R174). -/
def startSending (exponent attempts : Nat) (body : Body) (s : State) : State :=
  let notice : Notice := ⟨s.station, body⟩
  s.withLine
    { s.line with
      contention := .fixed exponent (attempts + 1) (.sending notice (sendUnits notice)),
      followOn := false, level := .busy }

/-- The CLAIM body (R99). -/
def State.claimBody (s : State) : Body :=
  let d := s.election.derived
  .claim d.root (BitVec.ofNat 8 d.hops) d.generation
    (if d.hops = 0 then some (BitVec.ofInt 16 s.climate.setpoint, BitVec.ofNat 8 s.climate.setback) else none)

/-- The head request is withdrawn at its line-win, and the next one fixed (R19, R174). -/
def withdrawHead (s : State) : State := fixHead (s.withLine s.line.dropHead)

/-- Line-win of a head request (R174). -/
def winLine (exponent attempts : Nat) (r : Request) (s : State) : State :=
  match r with
  | .callJoin =>
    match s.callJoinDecision with
    | .sent body => startSending exponent attempts body s
    | .withdrawn told =>
      let dropped := s.withLine s.line.dropHead
      fixHead (if told then schedNotAdmitted dropped else dropped)
  | .claim => startSending exponent attempts s.claimBody s
  | .presence => startSending exponent attempts (.presence s.zone.working) s
  | .warmth =>
    match s.climate.reading with
    | some t => startSending exponent attempts (.warmth s.zone.working (BitVec.ofInt 16 t)) s
    | none => withdrawHead s
  | .tally items => startSending exponent attempts (.tally items) s
  | .stir cause => startSending exponent attempts (.stir cause) s
  | .answer page content => startSending exponent attempts (.answer page content) s

/-! ### Loss (R175, R176) -/

/-- The owner withdraws the request at the loss itself (R56, R148, R179). -/
def State.withdrawnAtLoss (s : State) (r : Request) : Bool :=
  match r with
  | .callJoin => !(decide (s.sched.state = .wanting) && decide (s.sched.wait = some .queued))
  | .warmth => s.climate.reading.isNone
  | _ => false

/-- The 16th attempt is lost: the request is dropped and its follow-on enters the freed slot (R176). -/
def dropRequest (r : Request) (s : State) : State :=
  let dropped := s.withLine { s.line.dropHead.followOnEnters r s.line.followOn with level := .busy }
  let counted := dropped.count (fun c => { c with lineDrops := bump c.lineDrops })
  if r = .callJoin then schedNotAdmitted counted else counted

/-- A read-back mismatch (R175, R176). -/
def loseAttempt (exponent attempts : Nat) (r : Request) (s : State) : State :=
  if 16 ≤ attempts then dropRequest r s
  else if s.withdrawnAtLoss r then s.withLine { s.line.dropHead with level := .busy }
  else
    s.withLine
      { s.line with contention := .fixed (min 7 (exponent + 1)) attempts .lost, followOn := false, level := .busy }

/-! ### Completion (R177, R178) -/

/-- The owner's report of a completed notice: the announced claim and its spacing timer (R100), the PRESENCE spacing
timer (R127). -/
def reportCompletion (n : Notice) (s : State) : State :=
  match n.body with
  | .claim r h g _ =>
    s.withElection { s.election with announced := some ⟨r, h.toNat, g⟩, claimSpacing := some (seconds 1) }
  | .presence _ => s.withLight { s.light with presenceSpacing := some (seconds 30) }
  | _ => s

/-- The kinds looped back (R178). -/
def loopsBack : Body → Bool
  | .call _ | .join _ _ | .claim _ _ _ _ | .presence _ => true
  | _ => false

/-- A notice completes: its request leaves, a PRESENCE or WARMTH follow-on enters the freed slot, the owner is told,
and the notice is looped back (R170, R177, R178). The line has then been idle for 3 byte times. -/
def completeNotice (n : Notice) (r : Request) (s : State) : State :=
  let entering := s.line.followOn && decide (r ≠ .claim)
  let left := s.withLine
    { s.line.dropHead.followOnEnters r entering with level := .idle (3 * byteTime) }
  let told := reportCompletion n left
  if loopsBack n.body then deliver n told else told

/-! ### Backoff (R173, R176) -/

/-- Another station's start bit: the line is busy, and a counting backoff pauses (R173). After the check of this node's own
notice it ends the idle time that the completion waits for (R162, R177). -/
def pauseBackoff (s : State) : State :=
  let contention :=
    match s.line.contention with
    | .fixed e a (.counting units) => .fixed e a (.paused units)
    | c => c
  s.withLine { s.line with contention := contention, level := .busy }

/-- The line has again been idle for 4 byte times: a paused backoff resumes, a lost head draws its next (R173, R176). -/
def resumeBackoff (s : State) : State :=
  match s.line.contention with
  | .fixed e a (.paused units) => s.withLine { s.line with contention := .fixed e a (.counting units) }
  | .fixed e a .lost =>
    { s.afterDraw with line := { s.line with contention := .fixed e a (.counting (s.backoffUnits e)) } }
  | _ => s

end Sys2Proof.Machine
end

