-- ==== Sys2Proof/Machine/ClimateUnit.lean ====
section
/-! DEFINITION. Climate: WARMTH, READING_HOLD_EXPIRY, WARMTH_TIMER_EXPIRY, ROSTER_SECOND, CONTROL_STEP (R142 to R161). -/

namespace Sys2Proof.Machine

/-- WARMTH received from the line (R150). -/
def execWarmth (sender zone : Station) (temperature : Half) (s : State) : Result :=
  .next (receive ⟨sender, .warmth zone temperature⟩ s)

/-- READING_HOLD_EXPIRY: the reading becomes absent and a pending WARMTH is withdrawn (R146, R148). -/
def execReadingHoldExpiry (s : State) : Result :=
  .next (onExpiry s.climate.readingHold
    (fun s => withdraw .warmth (s.withClimate { s.climate with reading := none, readingHold := none })) s)

/-- WARMTH_TIMER_EXPIRY: a WARMTH is queued when a reading is present (R147). -/
def execWarmthTimerExpiry (s : State) : Result :=
  .next (onExpiry s.climate.warmthTimer
    (fun s =>
      let reloaded := s.withClimate { s.climate with warmthTimer := some (seconds 60) }
      if s.climate.reading.isSome then offer .warmth reloaded else reloaded) s)

/-- One expiry of the roster second: ages advance, and entries reaching 180 are removed (R153). -/
def ageRoster (roster : List (Option RosterEntry)) : List (Option RosterEntry) :=
  roster.map (fun x =>
    x.bind (fun e => if 180 ≤ e.age + 1 then none else some { e with age := e.age + 1 }))

/-- ROSTER_SECOND (R153). -/
def execRosterSecond (s : State) : Result :=
  .next (onExpiry s.climate.rosterSecond
    (fun s => s.withClimate
      { s.climate with
        rosterSecond := some (seconds 1),
        roster := if s.terminal then ageRoster s.climate.roster else s.climate.roster }) s)

/-- CONTROL_STEP (R157). -/
def execControlStep (s : State) : Result :=
  .next
    (if s.terminal then
      onExpiry s.climate.controlTimer
        (fun s => controlLaw (s.withClimate { s.climate with controlTimer := some (seconds 60) })) s
     else s)

end Sys2Proof.Machine
end

