-- ==== Sys2Proof/Machine/Light.lean ====
section
/-! DEFINITION. Lighting: OCCUPANCY_SAMPLE, RISING_EDGE, LOCKOUT_EXPIRY, HOLD_TIMER_EXPIRY, GRACE_TIMER_EXPIRY,
PRESENCE_SPACING_EXPIRY, PRESENCE, FADE_TICK, PWM_RELOAD, COMPARE_MATCH (R120 to R141). -/

namespace Sys2Proof.Machine

/-- The end of a window: it qualifies with 30 active samples or more (R123). -/
def endWindow (s : State) : State :=
  if 30 ≤ s.light.activeCount then
    let present := localPresence (s.withLight { s.light with held := true })
    present.withLight { present.light with windowCount := 0, activeCount := 0 }
  else s.withLight { s.light with held := false, windowCount := 0, activeCount := 0 }

/-- One level-mode sample; the 100th ends the window (R122, R123). -/
def takeSample (isActive : Bool) (s : State) : State :=
  let counted := s.withLight
    { s.light with
      windowCount := s.light.windowCount + 1,
      activeCount := if isActive then s.light.activeCount + 1 else s.light.activeCount }
  if 100 ≤ counted.light.windowCount then endWindow counted else counted

/-- An accepted edge (R124). -/
def acceptEdge (s : State) : State :=
  localPresence (s.withLight { s.light with held := true, lockout := some (seconds 1) })

/-- The pin is read, and the time to the next sample starts (R122). -/
def readPin (pinHigh : Bool) (s : State) : State :=
  s.withLight { s.light with pin := pinHigh, sampling := s.samplePeriod }

/-- One pulse-mode sample: a high sample after a low one is a rising edge, accepted outside the lockout (R122, R124). -/
def takePulseSample (pinHigh : Bool) (s : State) : State :=
  let read := readPin pinHigh s
  let noted := read.withLight { read.light with sampled := some pinHigh }
  if s.light.sampled = some false ∧ pinHigh ∧ s.light.lockout = none then acceptEdge noted else noted

/-- OCCUPANCY_SAMPLE: the pin stands at a level. It is one sample, active by the mode's level in the level modes and compared
with the one before in pulse mode; before listen-only and in the disabled mode none is taken (R122, R123). -/
def execOccupancySample (pinHigh : Bool) (s : State) : Result :=
  .next
    (if s.live then
      match s.occMode with
      | 0 => takeSample pinHigh (readPin pinHigh s)
      | 1 => takeSample (!pinHigh) (readPin pinHigh s)
      | 2 => takePulseSample pinHigh s
      | _ => s.withLight { s.light with pin := pinHigh }
     else s.withLight { s.light with pin := pinHigh })

/-- RISING_EDGE: in pulse mode a low sample and the high sample that follows it (R122, R124, log entry 16). -/
def execRisingEdge (s : State) : Result :=
  .next (if s.live ∧ s.occMode = 2 then takePulseSample true (takePulseSample false s) else s)

/-- LOCKOUT_EXPIRY (R124). -/
def execLockoutExpiry (s : State) : Result :=
  .next (onExpiry s.light.lockout (fun s => s.withLight { s.light with lockout := none, held := false }) s)

/-- HOLD_TIMER_EXPIRY: OCCUPIED becomes GRACE (R131). -/
def execHoldTimerExpiry (s : State) : Result :=
  .next
    (if s.light.occupancy = .occupied then
      onExpiry s.light.holdTimer
        (fun s => s.withLight
          { s.light with
            occupancy := .grace, holdTimer := none, graceTimer := some (seconds 120), target := s.light.task / 3 }) s
     else s)

/-- GRACE_TIMER_EXPIRY: GRACE becomes VACANT (R131). -/
def execGraceTimerExpiry (s : State) : Result :=
  .next
    (if s.light.occupancy = .grace then
      onExpiry s.light.graceTimer
        (fun s => s.withLight { s.light with occupancy := .vacant, graceTimer := none, target := 0 }) s
     else s)

/-- PRESENCE_SPACING_EXPIRY (R126). -/
def execPresenceSpacingExpiry (s : State) : Result :=
  .next (onExpiry s.light.presenceSpacing (fun s => s.withLight { s.light with presenceSpacing := none }) s)

/-- PRESENCE received from the line (R129). -/
def execPresence (sender zone : Station) (s : State) : Result := .next (receive ⟨sender, .presence zone⟩ s)

/-- FADE_TICK: outside CHIPS the output level moves one step (R135, R136). -/
def execFadeTick (s : State) : Result :=
  .next (onExpiry s.light.fadeTick
    (fun s =>
      let reloaded := s.withLight { s.light with fadeTick := some (milliseconds 25) }
      if s.round.phase = .chips then reloaded else fadeStep reloaded) s)

/-- The output stage runs: from step 2 of start-up on (R141, R195). -/
def State.stageRuns (s : State) : Bool := s.live || decide (s.phase = .restored)

/-- PWM_RELOAD: the counter reloads R, the buffered compare becomes active, and the drive goes high unless the compare
is R itself (R138, R140). -/
def execPwmReload (s : State) : Result :=
  .next
    (if s.stageRuns then
      s.withLight
        { s.light with
          counter := s.reload, active := s.light.buffered, drive := decide (s.reload < s.light.buffered) }
     else s)

/-- COMPARE_MATCH: the counter reaches the active compare value and the drive goes low; a compare of 1024 is never
reached (R138). -/
def execCompareMatch (s : State) : Result :=
  .next
    (if s.stageRuns ∧ s.light.active < 1024 then
      s.withLight { s.light with counter := s.light.active, drive := false }
     else s)

end Sys2Proof.Machine
end

