-- ==== Sys2Proof/Machine/Line.lean ====
section
/-! DEFINITION. The Line Interface's commands: HEAD_FIXING, LINE_WIN, LOSS, NOTICE_COMPLETION, LINE_START_BIT,
BACKOFF_RESUME, FRAMER_FIRST_IDLE, DISCARDED_NOTICE, ANSWER (R162 to R182). -/

namespace Sys2Proof.Machine

/-- HEAD_FIXING: the line has been idle for 4 byte times, and the first request is fixed as head (R172). -/
def execHeadFixing (s : State) : Result := .next (if s.live then fixHead (lineIdleFour s) else s)

/-- LINE_WIN: the backoff of the fixed head runs out (R174). -/
def execLineWin (s : State) : Result :=
  .next
    (match s.line.contention, s.line.queue with
     | .fixed e a (.counting _), q :: _ => winLine e a q.request s
     | _, _ => s)

/-- LOSS: a read-back mismatch while a notice is being sent (R175). -/
def execLoss (s : State) : Result :=
  .next
    (match s.line.contention, s.line.queue with
     | .fixed e a (.sending _ _), q :: _ => loseAttempt e a q.request s
     | _, _ => s)

/-- NOTICE_COMPLETION: the line has been idle for 3 byte times after the check, and the notice being sent completes (R177). -/
def execNoticeCompletion (s : State) : Result :=
  .next
    (match s.line.contention, s.line.queue with
     | .fixed _ _ (.sending n _), q :: _ => completeNotice n q.request s
     | _, _ => s)

/-- LINE_START_BIT (R173). -/
def execLineStartBit (s : State) : Result := .next (if s.live then pauseBackoff s else s)

/-- BACKOFF_RESUME (R173, R176). -/
def execBackoffResume (s : State) : Result := .next (if s.live then resumeBackoff (lineIdleFour s) else s)

/-- FRAMER_FIRST_IDLE (R163). -/
def execFramerFirstIdle (s : State) : Result :=
  .next
    (if s.live ∧ s.line.framer = .awaitingIdle then
      lineIdleThree (s.withLine { s.line with framer := .ready })
     else s)

/-- DISCARDED_NOTICE: what the framer collected is judged (R166, R167). -/
def execDiscardedNotice (raw : Collected) (s : State) : Result := .next (receiveBytes raw s)

/-- ANSWER received from the line: judged and handed to no block (R168). -/
def execAnswer (sender : Station) (page : Byte) (content : List Byte) (s : State) : Result :=
  .next (receive ⟨sender, .answer page content⟩ s)

end Sys2Proof.Machine
end

