-- ==== Sys2Proof/Machine/Rounds.lean ====
section
/-! DEFINITION. The round: CALL, JOIN, GUARD_START, START_OF_CHIPS, CHIP_SIGNAL, START_OF_SETTLE, ROUND_CLOSE (R2 to R25). -/

namespace Sys2Proof.Machine

/-- CALL received from the line (R11 to R13, R166, R167). -/
def execCall (sender : Station) (depth : Byte) (s : State) : Result := .next (receive ⟨sender, .call depth⟩ s)

/-- JOIN received from the line (R14 to R16, R166, R167). -/
def execJoin (sender : Station) (depth position : Byte) (s : State) : Result :=
  .next (receive ⟨sender, .join depth position⟩ s)

/-- The start of slot 12: a pending CALL/JOIN request is withdrawn and the scheduler told (R6, R20). -/
def passGuard (s : State) : State :=
  let marked := s.withRound { s.round with timer := { s.round.timer.atSlot 12 with guardPassed := true } }
  if marked.line.pendingRequest .callJoin then schedNotAdmitted (withdraw .callJoin marked) else marked

/-- GUARD_START (R20). -/
def execGuardStart (s : State) : Result :=
  .next (if s.round.phase = .opening ∧ ¬ s.round.timer.guardPassed then passGuard s else s)

/-- The Sense Unit is started on an ordered view (R7, R30). -/
def startSense (s : State) : State :=
  match s.round.disordered, s.sense.round with
  | false, .idle => s.withSense { s.sense with round := .sampling (Sampling.start s.round.probers s.round.own) }
  | _, _ => s

/-- The start of slot 16: the base is frozen and the override begins where this node is listed, the Sense Unit starts
on an ordered view (R6, R7, R24). -/
def beginChips (s : State) : State :=
  startSense
    (s.withRound
      { s.round with
        phase := .chips,
        timer := { s.round.timer.atSlot 16 with guardPassed := true, nextChip := 0, nextSample := 0 },
        override := if s.round.own.isSome then some (chipLevels s.light.output s.depth) else none })

/-- START_OF_CHIPS (R7). -/
def execStartOfChips (s : State) : Result :=
  .next (if s.round.phase = .opening then beginChips s else s)

/-- The start of chip slot 16+j (R8, R25). -/
def signalChip (j : Nat) (s : State) : State :=
  loadChip j
    (s.withRound
      { s.round with timer := { s.round.timer.atSlot (16 + j) with nextChip := j + 1, nextSample := 0 } })

/-- CHIP_SIGNAL (R8). -/
def execChipSignal (chip : Fin 16) (s : State) : Result :=
  .next (if s.round.phase = .chips then signalChip chip.val s else s)

/-- The start of slot 32: the override ends and the compare of the output level is loaded, the fade resumes with one
step, a held burst resumes, and the Sense Unit computes (R6, R9, R28, R35, R136). -/
def beginSettle (s : State) : State :=
  let settled := s.withRound
    { s.round with phase := .settle, timer := s.round.timer.atSlot 32, override := none }
  let resumed := resumeBurst (fadeStep (loadCompare settled.light.output settled))
  resumed.withSense { resumed.sense with round := resumed.sense.round.compute s.gain }

/-- START_OF_SETTLE (R9). -/
def execStartOfSettle (s : State) : Result :=
  .next (if s.round.phase = .chips then beginSettle s else s)

/-- The end of slot 33: the results and the close are handed on, without an order among the blocks, and the view
returns to NONE (R10). The scheduler's close falls before or after the results with their TALLY (DESIGN CHOICE, log entry
9). -/
def closeRound (s : State) : State := closeView (eitherOrder deliverResults schedClose s)

/-- ROUND_CLOSE (R10). -/
def execRoundClose (s : State) : Result :=
  .next (if s.round.phase = .settle then closeRound s else s)

end Sys2Proof.Machine
end

