-- ==== Sys2Proof/Machine/Save.lean ====
section
/-! DEFINITION. Zone Memory's commands: REST_TIMER_EXPIRY, LINK_HOLD_OFF_EXPIRY, SAVE_COMPLETION, CLEAR_COMPLETION
(R183 to R193). -/

namespace Sys2Proof.Machine

/-- REST_TIMER_EXPIRY: a pending save starts when the engine is IDLE (R188). -/
def execRestTimerExpiry (s : State) : Result :=
  .next (onExpiry s.memory.rest
    (fun s => startPendingSave (s.withMemory { s.memory with rest := none })) s)

/-- LINK_HOLD_OFF_EXPIRY: a save request (R187). -/
def execLinkHoldOffExpiry (s : State) : Result :=
  .next (onExpiry s.memory.linkHoldOff
    (fun s => saveRequest (s.withMemory { s.memory with linkHoldOff := none })) s)

/-- SAVE_COMPLETION: the record is written, the rest timer starts, and a pending clear begins (R190). -/
def execSaveCompletion (s : State) : Result :=
  .next
    (match s.memory.engine with
     | .saving _ =>
       s.withMemory
         { s.memory with
           nv := s.memory.nv.writeRecord (s.memory.snapshot.getD []), snapshot := none,
           engine := if s.memory.pendingClear then .clearing 0 else .idle, pendingClear := false,
           rest := some (seconds 300) }
     | _ => s)

/-- CLEAR_COMPLETION: pages 1 to 3 are erased, and a pending save starts when the rest timer is stopped (R188, R190). -/
def execClearCompletion (s : State) : Result :=
  .next
    (match s.memory.engine with
     | .clearing _ =>
       startPendingSave (s.withMemory { s.memory with nv := s.memory.nv.clearRecord, engine := .idle })
     | _ => s)

end Sys2Proof.Machine
end

