-- ==== Sys2Proof/Machine/Scheduling.lean ====
section
/-! DEFINITION. Probe scheduling: PROBE_TIMER_EXPIRY, RETRY_DELAY_EXPIRY, WANT_DEADLINE_EXPIRY, BRISK_TIMER_EXPIRY, STIR,
SURVEY (R44 to R57). -/

namespace Sys2Proof.Machine

/-- The probe timer expires: WANTING with a deadline of 60 s, and the queueing decision (R51). -/
def becomeWanting (s : State) : State :=
  queueingDecision
    (s.withSched { s.sched with state := .wanting, probe := none, deadline := some (seconds 60) })

/-- PROBE_TIMER_EXPIRY (R51): the timer runs in RESTING alone. -/
def execProbeTimerExpiry (s : State) : Result :=
  .next (if s.sched.state = .resting then onExpiry s.sched.probe becomeWanting s else s)

/-- RETRY_DELAY_EXPIRY (R54): the delay runs in WANTING with wait DELAY alone. A delay that covers the rest of listen-only
expires outside it, where the decision is made again (R52). -/
def execRetryDelayExpiry (s : State) : Result :=
  .next
    (if s.sched.state = .wanting ∧ s.sched.wait = some .delay ∧ ¬ s.inListenOnly then
      onExpiry s.sched.retry
        (fun s => queueingDecision (s.withSched { s.sched with retry := none })) s
     else s)

/-- The turn is given up: a pending request is withdrawn, the missed turn counted, a new probe timer loaded (R55). Where the
withdrawal fixes the next head, its backoff is drawn before the probe timer's jitter (DESIGN CHOICE, log entry 36). -/
def giveUpTurn (s : State) : State :=
  let withdrawn :=
    if s.sched.wait = some .queued ∧ s.line.pendingRequest .callJoin then withdraw .callJoin s else s
  restWithNewProbe (withdrawn.count (fun c => { c with missedTurns := bump c.missedTurns }))

/-- WANT_DEADLINE_EXPIRY (R55): the deadline runs in WANTING alone. -/
def execWantDeadlineExpiry (s : State) : Result :=
  .next (if s.sched.state = .wanting then onExpiry s.sched.deadline giveUpTurn s else s)

/-- BRISK_TIMER_EXPIRY (R50). -/
def execBriskTimerExpiry (s : State) : Result :=
  .next (onExpiry s.sched.brisk (fun s => s.withSched { s.sched with mode := .normal, brisk := none }) s)

/-- STIR received from the line (R78). -/
def execStir (sender : Station) (cause : Byte) (s : State) : Result := .next (receive ⟨sender, .stir cause⟩ s)

/-- SURVEY received from the line (R47, R199). -/
def execSurvey (sender : Station) (minutes : Byte) (s : State) : Result := .next (receive ⟨sender, .survey minutes⟩ s)

end Sys2Proof.Machine
end

