-- ==== Sys2Proof/Machine/Sensing.lean ====
section
/-! DEFINITION. The converter: CHIP_SAMPLE, LIGHT_CONVERSION_END, SAMPLE_TIMER_EXPIRY, TEMPERATURE_CONVERSION_END
(R26 to R34, R144). -/

namespace Sys2Proof.Machine

/-- The tick of a sample within its slot (section 2.3). -/
def sampleTick : Nat → Nat
  | 0 => 40
  | 1 => 56
  | 2 => 72
  | _ => 88

/-- A light conversion starts (R33). -/
def startLight (s : State) : State :=
  let t := s.round.timer
  (s.withRound
    { s.round with
      timer := { t with tick := max t.tick (sampleTick t.nextSample), nextSample := t.nextSample + 1 } }).withSense
    { s.sense with lightConverting := true }

/-- A Sense Unit in SAMPLING takes a sample of the running chip: fewer than four are taken, and the converter, which does
one conversion at a time, is free (R26, R33). -/
def State.samplesNow (s : State) : Bool :=
  match s.sense.round with
  | .sampling _ => decide (s.round.timer.nextSample < 4) && !s.sense.lightConverting && !s.temperatureConverting
  | _ => false

/-- CHIP_SAMPLE (R33). -/
def execChipSample (s : State) : Result := .next (if s.samplesNow then startLight s else s)

/-- A light conversion ends: its code goes to a Sense Unit in SAMPLING and is discarded otherwise (R31, R34). A burst that
waited for the converter outside CHIPS begins (R26). -/
def endLight (code : AdcCode) (s : State) : State :=
  resumeBurst (s.withSense
    { s.sense with
      lightConverting := false,
      round := match s.sense.round with
        | .sampling d => .sampling (d.takeCode code)
        | r => r })

/-- LIGHT_CONVERSION_END (R34). -/
def execLightConversionEnd (code : AdcCode) (s : State) : Result :=
  .next (if s.sense.lightConverting then endLight code s else s)

/-- SAMPLE_TIMER_EXPIRY (R144). -/
def execSampleTimerExpiry (s : State) : Result :=
  .next (onExpiry s.climate.sampleTimer
    (fun s => requestBurst (s.withClimate { s.climate with sampleTimer := some (seconds 10) })) s)

/-- A temperature conversion ends: the next one starts unless the view is in CHIPS; after the eighth the codes go to
the Climate Unit (R27, R28, R144). -/
def endTemperature (b : Burst) (code : AdcCode) (s : State) : State :=
  let codes := b.codes ++ [code]
  if codes.length < 8 then
    s.withSense { s.sense with burst := some ⟨codes, s.servesTemperature⟩ }
  else takeBurst codes (s.withSense { s.sense with burst := none })

/-- TEMPERATURE_CONVERSION_END (R27). -/
def execTemperatureConversionEnd (code : AdcCode) (s : State) : Result :=
  .next
    (match s.sense.burst with
     | some b => if b.converting then endTemperature b code s else s
     | none => s)

end Sys2Proof.Machine
end

