-- ==== Sys2Proof/Machine/Service.lean ====
section
/-! DEFINITION. Service notices: ASK, SET, FORGET (R196 to R200). -/

namespace Sys2Proof.Machine

/-- ASK received from the line (R196). -/
def execAsk (sender target : Station) (page : Byte) (s : State) : Result := .next (receive ⟨sender, .ask target page⟩ s)

/-- SET received from the line (R198). -/
def execSet (sender target : Station) (item : Byte) (value : Half) (s : State) : Result :=
  .next (receive ⟨sender, .set target item value⟩ s)

/-- FORGET received from the line (R192, R199). -/
def execForget (sender target : Station) (s : State) : Result := .next (receive ⟨sender, .forget target⟩ s)

end Sys2Proof.Machine
end

