-- ==== Sys2Proof/Machine/Startup.lean ====
section
/-! DEFINITION. Start-up: RESET, RESET_RELEASE, OSCILLATOR_WAIT_END, START_OF_LISTEN_ONLY, END_OF_LISTEN_ONLY
(R194, R195, R180, and each chapter's reset values). -/

namespace Sys2Proof.Machine

/-- Every block in its reset state; the pages are left as the page cycle in progress left them (R191, R195).
The commands waiting, the numbering of the free values and the level at the occupancy pin are not the part's and stay. -/
def afterReset (s : State) : State :=
  { State.reset with
    rng := lfsrSeed s.station
    election := { State.reset.election with derived := ⟨s.station, 0, 0⟩ }
    zone := { State.reset.zone with working := s.station, derivedCopy := s.station }
    light := { State.reset.light with pin := s.light.pin }
    memory := { State.reset.memory with nv := s.memory.afterReset s.free }
    free := if s.memory.engine = .idle then s.free else s.free + 32
    pending := s.pending }

/-- RESET (R195). -/
def execReset (s : State) : Result := .next (afterReset s)

/-- The straps are latched, the output stage starts at the compare of level 0, and the oscillator wait begins
(R141, R194, R195). -/
def releaseReset (pins : Straps) (s : State) : State :=
  let latched := { s with phase := .oscillatorWait, straps := pins }
  latched.withLight
    { latched.light with
      counter := latched.reload, buffered := latched.compare 0, active := latched.compare 0, drive := false }

/-- RESET_RELEASE (R194). -/
def execResetRelease (pins : Straps) (s : State) : Result :=
  .next (if s.phase = .held then releaseReset pins s else s)

/-- The restored working root, set aside where it is no node or lies above this node's station (R108, R185). -/
def State.restoredRoot (s : State) : Station :=
  let r := s.memory.nv.recordWorking
  if isNode r && decide (r ≤ s.station) then r else s.station

/-- A link position is restored: as a RESUMED entry in the lowest empty slot, unless it is passed over (R60, R185). -/
def restoreLink (s : State) (link : Station × Half) : State :=
  let leave := (thresholds s.sensClass).2
  if (link.2 ≠ 0xFFFF ∧ link.2.toNat < leave) ∨ ¬ isNode link.1 ∨ link.1 = s.station ∨ s.tableHolds link.1 then s
  else
    match emptySlot s.table.slots with
    | some i =>
      s.withSlot i (some { station := link.1, seen := none, previousSeen := none, told := none, link := .resumed,
                           claim := none, quiet := 0 })
    | none => s

/-- A good zone record is handed on (R185). -/
def restoreRecord (s : State) : State :=
  let nv := s.memory.nv
  if nv.goodRecord then
    let zoned := s.withZone { s.zone with working := s.restoredRoot }
    let climate := zoned.withClimate
      { zoned.climate with
        setpoint := clampInt 150 300 nv.recordSetpoint, setback := (clampInt 0 60 nv.recordSetback).toNat }
    let lit := climate.withLight { climate.light with task := (clampInt 0 1000 nv.recordTask).toNat }
    nv.recordLinks.foldl restoreLink lit
  else s

/-- Steps 2 and 3 of start-up: the start-up hold starts, the generator is seeded, the record is restored (R195). -/
def readPages (s : State) : State :=
  restoreRecord
    { s with phase := .restored, rng := lfsrSeed s.station, zone := { s.zone with hold := some (seconds 90) } }

/-- OSCILLATOR_WAIT_END (R195). -/
def execOscillatorWaitEnd (s : State) : Result :=
  .next (if s.phase = .oscillatorWait then readPages s else s)

/-- Step 4 of start-up: the framer, the listen-only timer and the timers that start here, the first probe timer and the
first temperature burst, and the occupancy sampling with pulse mode's first sample (R45, R122, R144, R180, R195). -/
def startListening (s : State) : State :=
  let probe := seconds 2 + jitterTicks (s.drawValue 800)
  let drawn := s.afterDraw
  requestBurst
    { drawn with
      phase := .listenOnly
      sched := { drawn.sched with mode := .brisk, brisk := some (seconds 600), probe := some probe }
      table := { drawn.table with agingMinute := some (seconds 60) }
      election := { drawn.election with ageSecond := some (seconds 1) }
      light :=
        { drawn.light with
          sampled := if s.occMode = 2 then some s.light.pin else none, sampling := s.samplePeriod,
          fadeTick := some (milliseconds 25) }
      climate :=
        { drawn.climate with
          sampleTimer := some (seconds 10), rosterSecond := some (seconds 1),
          controlTimer := if s.terminal then some (seconds 60) else none }
      line := { drawn.line with framer := .awaitingIdle, level := .busy, listenOnly := some (seconds 2) } }

/-- START_OF_LISTEN_ONLY (R180). -/
def execStartOfListenOnly (s : State) : Result :=
  .next (if s.phase = .restored then startListening s else s)

/-- Step 5 of start-up: the first derivation, the WARMTH timer, and the queue takes every kind (R105, R143, R180). -/
def release (s : State) : State :=
  firstDerivation
    { s with
      phase := .running
      line := { s.line with listenOnly := none }
      climate := { s.climate with warmthTimer := some (seconds 60) } }

/-- END_OF_LISTEN_ONLY (R180). -/
def execEndOfListenOnly (s : State) : Result :=
  .next (if s.phase = .listenOnly then release s else s)

end Sys2Proof.Machine
end

