-- ==== Sys2Proof/Machine/Table.lean ====
section
/-! DEFINITION. The Neighbour Table's commands: TALLY, AGING_MINUTE, STIR_SPACING_EXPIRY (R58 to R82). -/

namespace Sys2Proof.Machine

/-- TALLY received from the line (R63). -/
def execTally (sender : Station) (items : List (Station × Half)) (s : State) : Result :=
  .next (receive ⟨sender, .tally items⟩ s)

/-- AGING_MINUTE (R72). -/
def execAgingMinute (s : State) : Result :=
  .next (onExpiry s.table.agingMinute
    (fun s => ageTable (s.withTable { s.table with agingMinute := some (seconds 60) })) s)

/-- STIR_SPACING_EXPIRY (R77). -/
def execStirSpacingExpiry (s : State) : Result :=
  .next (onExpiry s.table.stirSpacing (fun s => s.withTable { s.table with stirSpacing := none }) s)

end Sys2Proof.Machine
end

