-- ==== Sys2Proof/Machine/Zoning.lean ====
section
/-! DEFINITION. Zone election and the working zone: CLAIM, AGE_SECOND, GENERATION_TIMER_EXPIRY, CLAIM_SPACING_EXPIRY,
SETTLE_TIMER_EXPIRY, START_UP_HOLD_END (R83 to R119). -/

namespace Sys2Proof.Machine

/-- CLAIM received from the line (R81, R84). -/
def execClaim (sender root : Station) (hops generation : Byte) (values : Option (Half × Byte)) (s : State) : Result :=
  .next (receive ⟨sender, .claim root hops generation values⟩ s)

/-- AGE_SECOND (R86). -/
def execAgeSecond (s : State) : Result := .next (onExpiry s.election.ageSecond ageRoots s)

/-- GENERATION_TIMER_EXPIRY (R95). -/
def execGenerationTimerExpiry (s : State) : Result :=
  .next (onExpiry s.election.generationTimer
    (fun s => derive (s.withElection
      { s.election with
        ownGeneration := s.election.ownGeneration + 1, generationTimer := some (seconds 30) })) s)

/-- CLAIM_SPACING_EXPIRY (R101). -/
def execClaimSpacingExpiry (s : State) : Result :=
  .next (onExpiry s.election.claimSpacing
    (fun s => announcementCheck (s.withElection { s.election with claimSpacing := none })) s)

/-- SETTLE_TIMER_EXPIRY: a zone change to the derived root copy (R111). -/
def execSettleTimerExpiry (s : State) : Result :=
  .next (onExpiry s.zone.settle
    (fun s => zoneChange s.zone.derivedCopy true (s.withZone { s.zone with settle := none })) s)

/-- START_UP_HOLD_END: the comparison of the derived root copy with the working root (R114). -/
def execStartUpHoldEnd (s : State) : Result :=
  .next (onExpiry s.zone.hold
    (fun s => s.withZone
      { s.zone with
        hold := none,
        settle := if s.zone.derivedCopy = s.zone.working then none else some (seconds 60) }) s)

end Sys2Proof.Machine
end

