-- ==== Sys2Proof/Machine/Dispatch.lean ====
section
/-! DEFINITION. One arm per command: its meaning on everything but the queue of commands. -/

namespace Sys2Proof.Machine

def exec (i : Instr) (s : State) : Host.Outcome State Fault Refusal :=
  match i with
  | .reset => Sys2Proof.Machine.execReset s
  | .resetRelease pins => Sys2Proof.Machine.execResetRelease pins s
  | .oscillatorWaitEnd => Sys2Proof.Machine.execOscillatorWaitEnd s
  | .startOfListenOnly => Sys2Proof.Machine.execStartOfListenOnly s
  | .endOfListenOnly => Sys2Proof.Machine.execEndOfListenOnly s
  | .call sender depth => Sys2Proof.Machine.execCall sender depth s
  | .join sender depth position => Sys2Proof.Machine.execJoin sender depth position s
  | .guardStart => Sys2Proof.Machine.execGuardStart s
  | .startOfChips => Sys2Proof.Machine.execStartOfChips s
  | .chipSignal chip => Sys2Proof.Machine.execChipSignal chip s
  | .chipSample => Sys2Proof.Machine.execChipSample s
  | .lightConversionEnd code => Sys2Proof.Machine.execLightConversionEnd code s
  | .startOfSettle => Sys2Proof.Machine.execStartOfSettle s
  | .roundClose => Sys2Proof.Machine.execRoundClose s
  | .tally sender items => Sys2Proof.Machine.execTally sender items s
  | .stir sender cause => Sys2Proof.Machine.execStir sender cause s
  | .survey sender minutes => Sys2Proof.Machine.execSurvey sender minutes s
  | .claim sender root hops generation values => Sys2Proof.Machine.execClaim sender root hops generation values s
  | .presence sender zone => Sys2Proof.Machine.execPresence sender zone s
  | .warmth sender zone temperature => Sys2Proof.Machine.execWarmth sender zone temperature s
  | .ask sender target page => Sys2Proof.Machine.execAsk sender target page s
  | .answer sender page content => Sys2Proof.Machine.execAnswer sender page content s
  | .set sender target item value => Sys2Proof.Machine.execSet sender target item value s
  | .forget sender target => Sys2Proof.Machine.execForget sender target s
  | .discardedNotice raw => Sys2Proof.Machine.execDiscardedNotice raw s
  | .headFixing => Sys2Proof.Machine.execHeadFixing s
  | .lineWin => Sys2Proof.Machine.execLineWin s
  | .loss => Sys2Proof.Machine.execLoss s
  | .noticeCompletion => Sys2Proof.Machine.execNoticeCompletion s
  | .probeTimerExpiry => Sys2Proof.Machine.execProbeTimerExpiry s
  | .retryDelayExpiry => Sys2Proof.Machine.execRetryDelayExpiry s
  | .wantDeadlineExpiry => Sys2Proof.Machine.execWantDeadlineExpiry s
  | .briskTimerExpiry => Sys2Proof.Machine.execBriskTimerExpiry s
  | .agingMinute => Sys2Proof.Machine.execAgingMinute s
  | .stirSpacingExpiry => Sys2Proof.Machine.execStirSpacingExpiry s
  | .ageSecond => Sys2Proof.Machine.execAgeSecond s
  | .generationTimerExpiry => Sys2Proof.Machine.execGenerationTimerExpiry s
  | .claimSpacingExpiry => Sys2Proof.Machine.execClaimSpacingExpiry s
  | .settleTimerExpiry => Sys2Proof.Machine.execSettleTimerExpiry s
  | .startUpHoldEnd => Sys2Proof.Machine.execStartUpHoldEnd s
  | .occupancySample pinHigh => Sys2Proof.Machine.execOccupancySample pinHigh s
  | .risingEdge => Sys2Proof.Machine.execRisingEdge s
  | .lockoutExpiry => Sys2Proof.Machine.execLockoutExpiry s
  | .holdTimerExpiry => Sys2Proof.Machine.execHoldTimerExpiry s
  | .graceTimerExpiry => Sys2Proof.Machine.execGraceTimerExpiry s
  | .presenceSpacingExpiry => Sys2Proof.Machine.execPresenceSpacingExpiry s
  | .fadeTick => Sys2Proof.Machine.execFadeTick s
  | .pwmReload => Sys2Proof.Machine.execPwmReload s
  | .compareMatch => Sys2Proof.Machine.execCompareMatch s
  | .sampleTimerExpiry => Sys2Proof.Machine.execSampleTimerExpiry s
  | .temperatureConversionEnd code => Sys2Proof.Machine.execTemperatureConversionEnd code s
  | .readingHoldExpiry => Sys2Proof.Machine.execReadingHoldExpiry s
  | .warmthTimerExpiry => Sys2Proof.Machine.execWarmthTimerExpiry s
  | .rosterSecond => Sys2Proof.Machine.execRosterSecond s
  | .controlStep => Sys2Proof.Machine.execControlStep s
  | .restTimerExpiry => Sys2Proof.Machine.execRestTimerExpiry s
  | .linkHoldOffExpiry => Sys2Proof.Machine.execLinkHoldOffExpiry s
  | .saveCompletion => Sys2Proof.Machine.execSaveCompletion s
  | .clearCompletion => Sys2Proof.Machine.execClearCompletion s
  | .lineStartBit => Sys2Proof.Machine.execLineStartBit s
  | .backoffResume => Sys2Proof.Machine.execBackoffResume s
  | .framerFirstIdle => Sys2Proof.Machine.execFramerFirstIdle s

end Sys2Proof.Machine
end

