-- ==== Sys2Proof/Machine/Idle.lean ====
section
/-! DEFINITION. What the part does of its own while no command waits (log entry 1): the events that have come due, and
one crystal cycle. -/

namespace Sys2Proof.Machine

/-! ### Events that have come due -/

/-- A command is due where a condition holds. -/
def dueIf (condition : Bool) (c : Instr) : List Instr := if condition then [c] else []

/-- A timer has run out. -/
def ranOut (t : Timer) : Bool := decide (t = some 0)

/-- The expiries due of the timers that count the free-running tick. -/
def State.dueTimers (s : State) : List Instr :=
  dueIf (ranOut s.line.listenOnly && s.inListenOnly) .endOfListenOnly ++
  dueIf (ranOut s.zone.hold) .startUpHoldEnd ++
  dueIf (ranOut s.sched.probe && decide (s.sched.state = .resting)) .probeTimerExpiry ++
  dueIf (ranOut s.sched.retry && decide (s.sched.wait = some .delay) && !s.inListenOnly) .retryDelayExpiry ++
  dueIf (ranOut s.sched.deadline && decide (s.sched.state = .wanting)) .wantDeadlineExpiry ++
  dueIf (ranOut s.sched.brisk) .briskTimerExpiry ++
  dueIf (ranOut s.table.agingMinute) .agingMinute ++
  dueIf (ranOut s.table.stirSpacing) .stirSpacingExpiry ++
  dueIf (ranOut s.election.ageSecond) .ageSecond ++
  dueIf (ranOut s.election.generationTimer) .generationTimerExpiry ++
  dueIf (ranOut s.election.claimSpacing) .claimSpacingExpiry ++
  dueIf (ranOut s.zone.settle) .settleTimerExpiry ++
  dueIf (ranOut s.light.sampling) (.occupancySample s.light.pin) ++
  dueIf (ranOut s.light.lockout) .lockoutExpiry ++
  dueIf (ranOut s.light.holdTimer && decide (s.light.occupancy = .occupied)) .holdTimerExpiry ++
  dueIf (ranOut s.light.graceTimer && decide (s.light.occupancy = .grace)) .graceTimerExpiry ++
  dueIf (ranOut s.light.presenceSpacing) .presenceSpacingExpiry ++
  dueIf (ranOut s.light.fadeTick) .fadeTick ++
  dueIf (ranOut s.climate.sampleTimer) .sampleTimerExpiry ++
  dueIf (ranOut s.climate.readingHold) .readingHoldExpiry ++
  dueIf (ranOut s.climate.warmthTimer) .warmthTimerExpiry ++
  dueIf (ranOut s.climate.rosterSecond) .rosterSecond ++
  dueIf (ranOut s.climate.controlTimer && s.terminal) .controlStep ++
  dueIf (ranOut s.memory.rest) .restTimerExpiry ++
  dueIf (ranOut s.memory.linkHoldOff) .linkHoldOffExpiry

/-- The slot events due (R6, R8, R33). -/
def State.dueSlots (s : State) : List Instr :=
  let t := s.round.timer
  match s.round.phase with
  | .none => []
  | .opening => dueIf (decide (12 ≤ t.slot) && !t.guardPassed) .guardStart ++ dueIf (decide (16 ≤ t.slot)) .startOfChips
  | .chips =>
    (if h : t.nextChip < 16 then dueIf (decide (16 + t.nextChip ≤ t.slot)) (.chipSignal ⟨t.nextChip, h⟩) else []) ++
    dueIf (s.samplesNow && decide (t.nextChip + 15 = t.slot) && decide (sampleTick t.nextSample ≤ t.tick)) .chipSample ++
    dueIf (decide (32 ≤ t.slot)) .startOfSettle
  | .settle => dueIf (decide (34 ≤ t.slot)) .roundClose

/-- The line events due: head fixing, resumption of the backoff, line-win, and the completion of a notice sent whole, when the
line has been idle for 3 byte times: not before that idle where a start bit came after its check (R172, R173, R177). -/
def State.dueLine (s : State) : List Instr :=
  match s.line.contention, s.line.queue with
  | .unfixed, _ :: _ => dueIf s.line.idleFour .headFixing
  | .fixed _ _ (.paused _), _ :: _ => dueIf s.line.idleFour .backoffResume
  | .fixed _ _ .lost, _ :: _ => dueIf s.line.idleFour .backoffResume
  | .fixed _ _ (.counting units), _ :: _ => dueIf (s.line.idleFour && decide (units = 0)) .lineWin
  | .fixed _ _ (.sending _ _), _ :: _ => dueIf (s.line.sentWhole.isSome && s.line.idleFor 3) .noticeCompletion
  | _, [] => []

/-- The events due of the output stage and of the page cycle (R138, R190). -/
def State.dueStages (s : State) : List Instr :=
  dueIf (decide (1024 ≤ s.light.counter)) .pwmReload ++
  dueIf (s.light.drive && decide (s.light.active ≤ s.light.counter) && decide (s.light.active < 1024)) .compareMatch ++
  (match s.memory.engine with
   | .idle => []
   | .saving elapsed => dueIf (decide (saveTicks ≤ elapsed)) .saveCompletion
   | .clearing elapsed => dueIf (decide (clearTicks ≤ elapsed)) .clearCompletion)

/-- An event that may be a zone presence is due: a sample of the occupancy pin, or the completion of this node's PRESENCE. -/
def State.presenceAtHand (s : State) : Bool :=
  ranOut s.light.sampling ||
  match s.line.sentWhole with
  | some ⟨_, .presence _⟩ => s.line.idleFor 3
  | _ => false

/-- The hold timer has expired at this instant and a zone presence of the same instant is still to be taken: the target stands
at the grace level for no time (R132). The grace timer is full only at the tick that started it. -/
def State.graceForNoTime (s : State) : Bool :=
  decide (s.light.occupancy = .grace) && decide (s.light.graceTimer = some (seconds 120)) &&
    decide (s.prescaler = 0) && s.presenceAtHand

/-- The events that make a fade step: the fade tick, and the start of SETTLE (R135, R136). -/
def makesFadeStep (c : Instr) : Bool := decide (c = .fadeTick) || decide (c = .startOfSettle)

/-- All events due at this instant; none before step 2 of start-up. A fade step waits while the target stands at the grace
level for no time (R132). -/
def State.due (s : State) : List Instr :=
  if s.stageRuns then
    (s.dueTimers ++ s.dueSlots ++ s.dueLine ++ s.dueStages).filter (fun c => !(s.graceForNoTime && makesFadeStep c))
  else []

/-! ### One crystal cycle -/

/-- A timer counts one tick. -/
def Timer.tick (t : Timer) : Timer := t.map (fun n => n - 1)

/-- The page cycle runs one tick. -/
def Engine.tick : Engine → Engine
  | .idle => .idle
  | .saving elapsed => .saving (elapsed + 1)
  | .clearing elapsed => .clearing (elapsed + 1)

/-- One free-running tick: every running timer counts (00_scope.md, Time base). Before listen-only the start-up hold
alone runs (R195). -/
def freeTick (s : State) : State :=
  let held := { s with zone := { s.zone with hold := s.zone.hold.tick } }
  if s.live then
    { held with
      sched := { s.sched with
        brisk := s.sched.brisk.tick, probe := s.sched.probe.tick, deadline := s.sched.deadline.tick,
        retry := s.sched.retry.tick }
      table := { s.table with stirSpacing := s.table.stirSpacing.tick, agingMinute := s.table.agingMinute.tick }
      election := { s.election with
        generationTimer := s.election.generationTimer.tick, claimSpacing := s.election.claimSpacing.tick,
        ageSecond := s.election.ageSecond.tick }
      zone := { s.zone with settle := s.zone.settle.tick, hold := s.zone.hold.tick }
      light := { s.light with
        sampling := s.light.sampling.tick, lockout := s.light.lockout.tick, holdTimer := s.light.holdTimer.tick,
        graceTimer := s.light.graceTimer.tick, presenceSpacing := s.light.presenceSpacing.tick, fadeTick := s.light.fadeTick.tick }
      climate := { s.climate with
        readingHold := s.climate.readingHold.tick, sampleTimer := s.climate.sampleTimer.tick,
        warmthTimer := s.climate.warmthTimer.tick, rosterSecond := s.climate.rosterSecond.tick,
        controlTimer := s.climate.controlTimer.tick }
      line := { s.line with listenOnly := s.line.listenOnly.tick }
      memory := { s.memory with
        rest := s.memory.rest.tick, linkHoldOff := s.memory.linkHoldOff.tick, engine := s.memory.engine.tick } }
  else held

/-- The slot timer counts one crystal cycle: 256 to a tick, 128 ticks to a slot (R4). -/
def SlotTimer.cycle (t : SlotTimer) : SlotTimer :=
  if !t.counting then t
  else if t.prescaler < 255 then { t with prescaler := t.prescaler + 1 }
  else if t.tick < 127 then { t with prescaler := 0, tick := t.tick + 1 }
  else { t with prescaler := 0, tick := 0, slot := t.slot + 1 }

/-- One crystal cycle of the line's idle time, held up to 4 byte times (R162). -/
def LineLevel.cycle : LineLevel → LineLevel
  | .idle units => .idle (min (4 * byteTime) (units + 3))
  | .busy => .busy

/-- One crystal cycle of the line: three units of 1/6400 byte time. A backoff counts while the line has been idle for 4 byte
times. A notice of this node's own keeps the line busy up to the end of its last stop bit, and the line is idle from there on
(R162, R173, R174, R177). -/
def LineInterface.cycle (l : LineInterface) : LineInterface :=
  match l.contention with
  | .fixed e a (.counting units) =>
    { l with
      contention := if l.idleFour then .fixed e a (.counting (units - 3)) else l.contention
      level := l.level.cycle }
  | .fixed e a (.sending n units) =>
    { l with
      contention := .fixed e a (.sending n (units - 3))
      level := if units = 0 then l.level.cycle else if units ≤ 3 then .idle (3 - units) else .busy }
  | .fixed _ _ (.paused _) | .fixed _ _ .lost | .unfixed => { l with level := l.level.cycle }

/-- One crystal cycle: the PWM counter, the slot timer, the line's times, and at every 256th the free-running tick. -/
def crystalCycle (s : State) : State :=
  let counted :=
    { s with
      prescaler := if s.prescaler < 255 then s.prescaler + 1 else 0
      round := { s.round with timer := s.round.timer.cycle }
      light := { s.light with counter := s.light.counter + 1 }
      line := s.line.cycle }
  if s.prescaler < 255 then counted else freeTick counted

/-- The event taken among those due: the only one, or a free choice (log entry 2). -/
def chooseDue (events : List Instr) (s : State) : Option (Instr × State) :=
  match events with
  | [] => none
  | [c] => some (c, s)
  | c :: rest =>
    some ((c :: rest).getD (Config.orderChoice s.free % (rest.length + 1)) c, { s with free := s.free + 1 })

/-- A step while no command waits: nothing while the crystal does not run, else an event due, else one cycle. -/
def idleStep (s : State) : Result :=
  if s.stageRuns then
    match chooseDue s.due s with
    | some (c, s') => exec c s'
    | none => .next (crystalCycle s)
  else .next s

/-- A step takes the command at the front of the queue; on an empty queue the part acts of its own. -/
def stepQueue (s : State) : Result :=
  match s.pending with
  | c :: rest => exec c { s with pending := rest }
  | [] => idleStep s

end Sys2Proof.Machine
end

