-- ==== Sys2Proof/WellFormed.lean ====
section
/-! DEFINITION. Which commands are well formed: the notices they carry fit a frame, and a discarded notice fails its
judgement. Every other operand has its range in its type. -/

namespace Sys2Proof

/-- A body fits a frame: at most 40 bytes (R164). -/
def Body.fits (b : Body) : Bool := decide ((Machine.bodyBytes b).length ≤ 40)

/-- What was collected fails the judgement (R166). -/
def Collected.fails (raw : Collected) : Bool :=
  match Machine.judge raw with
  | .passes _ => false
  | .counted | .uncounted => true

/-- The well-formed commands. -/
def Instr.wellFormed : Instr → Bool
  | .tally _ items => Body.fits (.tally items)
  | .answer _ page content => Body.fits (.answer page content)
  | .discardedNotice raw => raw.fails
  | .reset | .resetRelease _ | .oscillatorWaitEnd | .startOfListenOnly | .endOfListenOnly => true
  | .call _ _ | .join _ _ _ | .guardStart | .startOfChips | .chipSignal _ | .chipSample => true
  | .lightConversionEnd _ | .startOfSettle | .roundClose | .stir _ _ | .survey _ _ | .claim _ _ _ _ _ => true
  | .presence _ _ | .warmth _ _ _ | .ask _ _ _ | .set _ _ _ _ | .forget _ _ => true
  | .headFixing | .lineWin | .loss | .noticeCompletion => true
  | .probeTimerExpiry | .retryDelayExpiry | .wantDeadlineExpiry | .briskTimerExpiry => true
  | .agingMinute | .stirSpacingExpiry | .ageSecond | .generationTimerExpiry | .claimSpacingExpiry => true
  | .settleTimerExpiry | .startUpHoldEnd | .occupancySample _ | .risingEdge | .lockoutExpiry => true
  | .holdTimerExpiry | .graceTimerExpiry | .presenceSpacingExpiry | .fadeTick | .pwmReload | .compareMatch => true
  | .sampleTimerExpiry | .temperatureConversionEnd _ | .readingHoldExpiry | .warmthTimerExpiry => true
  | .rosterSecond | .controlStep | .restTimerExpiry | .linkHoldOffExpiry | .saveCompletion => true
  | .clearCompletion | .lineStartBit | .backoffResume | .framerFirstIdle => true

end Sys2Proof
end

