-- ==== Sys2Proof/Safety.lean ====
section
/-! DEFINITION. What a sound state of the part is, block by block, as the manual's chapters describe the state they own;
every step keeps all of it (`State.Sound`). The block terms used in claims stand here too. -/

namespace Sys2Proof.Machine

/-! ### Ranges -/

/-- A depth is one of the four (R2). -/
abbrev depthAllowed (d : Nat) : Prop := d = 20 ∨ d = 40 ∨ d = 60 ∨ d = 80

/-- A temperature a reading can have (R145). -/
abbrev temperatureInRange (t : Int) : Prop := -200 ≤ t ∧ t ≤ 799

/-- A measured half lies within 0..4095 where present (R58). -/
def halfInRange (v : Option Nat) : Prop := ∀ k ∈ v, k ≤ 4095

/-- An outcome's index lies within 0..4095 (R40). -/
def findingInRange : Finding → Prop
  | .index k => k ≤ 4095
  | .clipped | .noisy => True

/-- The correlation of chip sums against a code (R35). -/
def correlationOf (code : Option Nat) (sums : List Nat) : Int :=
  (sums.mapIdx (fun j c => signedSum code j c)).sum

/-! ### The identity page and the generator -/

/-- The identity page names a node (R183). -/
def State.NodeIdentity (s : State) : Prop := isNode s.station = true

/-- The generator never stands at 0 (R1). -/
def State.GeneratorRuns (s : State) : Prop := s.rng ≠ 0

/-! ### Zone Memory (R183, R186, R188, R189) -/

/-- A save is running. -/
def Engine.isSaving : Engine → Bool
  | .saving _ => true
  | .idle | .clearing _ => false

/-- The pages keep their canonical form; a snapshot of 92 bytes is held while saving, and only then; a clear waits only
on a save; a pending save waits on the engine or on the rest timer. -/
def State.MemorySound (s : State) : Prop :=
  s.memory.nv.wf = true ∧
  (∀ bytes ∈ s.memory.snapshot, bytes.length = 92) ∧
  s.memory.snapshot.isSome = s.memory.engine.isSaving ∧
  (s.memory.pendingClear = true → s.memory.engine.isSaving = true) ∧
  (s.memory.pendingSave = true → s.memory.engine ≠ .idle ∨ s.memory.rest.isSome = true)

/-! ### Round view (R2) -/

/-- At most 6 records, of distinct node stations and allowed depths, the i-th at position i; nothing but the reset values
in NONE; at least one record outside NONE; the own position is that of the record of this node; GUARD_START not taken means
that slot 12 has at most just started. -/
def State.RoundSound (s : State) : Prop :=
  s.round.probers.length ≤ 6 ∧
  s.round.probers.map (fun r => r.position) = List.range' 1 s.round.probers.length ∧
  (s.round.probers.map (fun r => r.station)).Nodup ∧
  (∀ r ∈ s.round.probers, depthAllowed r.depth ∧ isNode r.station = true) ∧
  (s.round.phase = .none →
    s.round.probers = [] ∧ s.round.own = none ∧ s.round.disordered = false ∧ s.round.timer = .stopped ∧
      s.round.override = none) ∧
  (s.round.phase ≠ .none → s.round.probers ≠ []) ∧
  (∀ p ∈ s.round.own, ∃ r ∈ s.round.probers, r.position = p ∧ r.station = s.station) ∧
  (s.round.phase = .opening → s.round.timer.guardPassed = false →
    s.round.timer.slot < 12 ∨ (s.round.timer.slot = 12 ∧ s.round.timer.tick = 0 ∧ s.round.timer.prescaler = 0)) ∧
  (s.live = false → s.round.phase = .none)

/-! ### Sense Unit (R27, R30, R33, R35, R40, R41) -/

/-- The records a round was started with: the prober list's own shape. -/
def recordsSound (records : List ProberRecord) : Prop :=
  records.length ≤ 6 ∧
  records.map (fun r => r.position) = List.range' 1 records.length ∧
  (records.map (fun r => r.station)).Nodup ∧
  ∀ r ∈ records, depthAllowed r.depth ∧ isNode r.station = true

/-- What SAMPLING holds: one chip sum per chip taken, each within 0..16380, and in every accumulator the correlation of
those sums against its code; an unassigned code's accumulator is kept at 0. -/
def Sampling.Sound (d : Sampling) : Prop :=
  recordsSound d.records ∧
  d.chip ≤ 16 ∧ d.sums.length = d.chip ∧ d.codes.length < 4 ∧
  (∀ c ∈ d.sums, c ≤ 16380) ∧
  d.accs.length = 6 ∧
  (∀ i, i < 6 →
    d.accs.getD i 0 = if d.assigned (i + 1) then correlationOf (some (i + 1)) d.sums else 0) ∧
  d.nullAcc = correlationOf none d.sums

/-- SAMPLING stands in CHIPS and READY in SETTLE, both in a view that is not disordered; READY holds at most one result
per record, of indices within 0..4095. -/
def senseRoundSound (round : RoundController) : SenseRound → Prop
  | .idle => True
  | .sampling d => round.phase = .chips ∧ round.disordered = false ∧ d.Sound
  | .ready results _ =>
    round.phase = .settle ∧ round.disordered = false ∧ results.length ≤ 6 ∧
      (results.map (fun r => r.station)).Nodup ∧
      ∀ r ∈ results, findingInRange r.finding ∧ isNode r.station = true

/-- The Sense Unit's round state, the burst of fewer than 8 codes, the last self-coupling, and a converter that does one
conversion at a time. -/
def State.SenseSound (s : State) : Prop :=
  senseRoundSound s.round s.sense.round ∧
  (∀ b ∈ s.sense.burst, b.codes.length < 8) ∧
  (∀ f ∈ s.sense.lastSelf, findingInRange f) ∧
  (s.sense.lightConverting = true → s.temperatureConverting = false) ∧
  (s.live = false → s.sense.burst = none)

/-! ### Probe Scheduler (R44) -/

/-- The brisk timer runs exactly in BRISK; the probe timer in RESTING, from listen-only on; the deadline exactly in
WANTING, with a wait; the retry delay exactly in wait DELAY. -/
def State.SchedulerSound (s : State) : Prop :=
  (s.sched.mode = .brisk ↔ s.sched.brisk.isSome = true) ∧
  (s.sched.probe.isSome = true ↔ s.sched.state = .resting ∧ s.live = true) ∧
  (s.sched.deadline.isSome = true ↔ s.sched.state = .wanting) ∧
  (s.sched.wait.isSome = true ↔ s.sched.state = .wanting) ∧
  (s.sched.retry.isSome = true ↔ s.sched.wait = some .delay) ∧
  (s.live = false → s.sched.state = .resting)

/-! ### Neighbour Table (R42, R58, R72) -/

/-- An entry: a node's station other than this node's, halves within 0..4095, hops within 0..15, quiet within 0..14. -/
def entrySound (own : Station) (e : Entry) : Prop :=
  isNode e.station = true ∧ e.station ≠ own ∧
  halfInRange e.seen ∧ halfInRange e.previousSeen ∧ halfInRange e.told ∧
  (∀ c ∈ e.claim, c.hops ≤ 15) ∧ e.quiet ≤ 14

/-- 16 slots with sound entries of distinct stations; SUSPECT exactly at a suspect count of 3. -/
def State.TableSound (s : State) : Prop :=
  s.table.slots.length = 16 ∧
  (∀ e ∈ entriesOf s.table.slots, entrySound s.station e) ∧
  ((entriesOf s.table.slots).map (fun e => e.station)).Nodup ∧
  s.table.suspect ≤ 3 ∧ (s.table.sensor = .suspect ↔ s.table.suspect = 3)

/-! ### Zone Election Unit and Working Zone Unit (R83, R91, R95, R107, R111) -/

/-- 16 slots of distinct node roots with ages within 0..99; a derived claim of hops 0..15, hops 0 exactly for this node's
own root, no parent exactly then, and a root not above this node; the generation timer runs exactly while this node
derives itself after listen-only. -/
def State.ElectionSound (s : State) : Prop :=
  s.election.roots.length = 16 ∧
  (∀ e ∈ entriesOf s.election.roots, isNode e.root = true ∧ e.age ≤ 99) ∧
  ((entriesOf s.election.roots).map (fun e => e.root)).Nodup ∧
  s.election.derived.hops ≤ 15 ∧ s.election.derived.root ≤ s.station ∧ isNode s.election.derived.root = true ∧
  (s.election.derived.hops = 0 ↔ s.election.derived.root = s.station) ∧
  (s.election.parent = none ↔ s.election.derived.root = s.station) ∧
  (s.election.generationTimer.isSome = true ↔ s.phase = .running ∧ s.election.derived.root = s.station)

/-- A working root not above this node; a derived root copy equal to the derived root; a settle timer that runs only after
the hold, toward a copy that differs from the working root. -/
def State.ZoneSound (s : State) : Prop :=
  isNode s.zone.working = true ∧ s.zone.working ≤ s.station ∧
  s.zone.derivedCopy = s.election.derived.root ∧
  (s.zone.settle.isSome = true → s.zone.hold = none ∧ s.zone.derivedCopy ≠ s.zone.working) ∧
  (s.phase = .held ∨ s.phase = .oscillatorWait → s.zone.hold = none ∧ s.zone.settle = none)

/-! ### Lighting Unit (R120, R123, R138) -/

/-- Levels within 0..1000, the target formed from the state and the task level, the hold timer exactly in OCCUPIED and the
grace timer exactly in GRACE, an unfinished window, chip levels within 0..1000, and compares within R..1024 once the
straps are latched; the pin is sampled at least every 10 ms, unless ST-OCC disables it. -/
def State.LightSound (s : State) : Prop :=
  s.light.task ≤ 1000 ∧ s.light.output ≤ 1000 ∧
  s.light.target = targetOf s.light.occupancy s.light.task ∧
  (s.light.holdTimer.isSome = true ↔ s.light.occupancy = .occupied) ∧
  (s.light.graceTimer.isSome = true ↔ s.light.occupancy = .grace) ∧
  s.light.activeCount ≤ s.light.windowCount ∧ s.light.windowCount < 100 ∧
  (∀ levels ∈ s.round.override, levels.high ≤ 1000 ∧ levels.low ≤ 1000) ∧
  (s.phase ≠ .held →
    s.reload ≤ s.light.buffered ∧ s.light.buffered ≤ 1024 ∧ s.reload ≤ s.light.active ∧ s.light.active ≤ 1024) ∧
  (s.live = false → s.light.occupancy = .vacant ∧ s.light.sampling = none) ∧
  (s.live = true → (s.light.sampling.isSome = true ↔ s.occMode ≠ 3)) ∧
  (∀ left ∈ s.light.sampling, left ≤ milliseconds 10)

/-! ### Climate Unit (R142, R149) -/

/-- Readings and means in range, the hold timer exactly with a reading, setpoints within their ranges, 24 slots of distinct
stations with ages within 0..179, and on a node without a terminal unit an empty roster and a closed damper. -/
def State.ClimateSound (s : State) : Prop :=
  (∀ t ∈ s.climate.reading, temperatureInRange t) ∧
  s.climate.readingHold.isSome = s.climate.reading.isSome ∧
  150 ≤ s.climate.setpoint ∧ s.climate.setpoint ≤ 300 ∧ s.climate.setback ≤ 60 ∧
  s.climate.roster.length = 24 ∧
  (∀ e ∈ entriesOf s.climate.roster, isNode e.station = true ∧ temperatureInRange e.temperature ∧ e.age ≤ 179) ∧
  ((entriesOf s.climate.roster).map (fun e => e.station)).Nodup ∧
  (∀ t ∈ s.climate.lastMean, temperatureInRange t) ∧ s.climate.damper ≤ 255 ∧
  (s.terminal = false ∨ s.live = false →
    entriesOf s.climate.roster = [] ∧ s.climate.damper = 0 ∧ s.climate.lastMean = none ∧ s.climate.controlTimer = none) ∧
  (s.live = false → s.climate.sampleTimer = none)

/-! ### Line Interface (R164, R169, R170, R172 to R174, R182) -/

/-- A queued body fits its kind: 1..6 items of a TALLY, at most 36 bytes of an ANSWER's content. -/
def requestSound : Request → Prop
  | .tally items => 1 ≤ items.length ∧ items.length ≤ 6
  | .answer _ content => content.length ≤ 36
  | .callJoin | .stir _ | .claim | .presence | .warmth => True

/-- The request is an ANSWER. -/
def Request.isAnswer : Request → Bool
  | .answer _ _ => true
  | .callJoin | .tally _ | .stir _ | .claim | .presence | .warmth => false

/-- Queue order (R169): by rank, and within a rank by entry. -/
abbrev queueOrdered (a b : Queued) : Prop :=
  rank a.request < rank b.request ∨ (rank a.request = rank b.request ∧ a.entered < b.entered)

/-- The requests whose order the rank settles: all but a fixed head. -/
def LineInterface.rankedQueue (l : LineInterface) : List Queued := l.displaceable

/-- A contention state: the exponent is 3 plus the losses so far, at most 7, over at most 16 attempts (R173). -/
def contentionSound (station : Station) : Contention → Prop
  | .unfixed => True
  | .fixed e a (.sending n _) =>
    1 ≤ a ∧ a ≤ 16 ∧ e = min 7 (3 + (a - 1)) ∧ n.sender = station ∧ judgeNotice n = .passes n
  | .fixed e a (.counting _) => a ≤ 15 ∧ e = min 7 (3 + a)
  | .fixed e a (.paused _) => a ≤ 15 ∧ e = min 7 (3 + a)
  | .fixed e a .lost => 1 ≤ a ∧ a ≤ 15 ∧ e = min 7 (3 + a)

/-- At most 8 requests in order, at most one of each kind held once, fit bodies, a sound contention state over a head
that is there, a follow-on only of a CLAIM, PRESENCE or WARMTH being sent, ANSWERs alone before the end of listen-only,
and counters of 16 bits. -/
def State.LineSound (s : State) : Prop :=
  s.line.queue.length ≤ 8 ∧
  s.line.rankedQueue.Pairwise queueOrdered ∧
  (∀ q ∈ s.line.queue, q.entered < s.line.entries) ∧
  (∀ r ∈ [Request.callJoin, .claim, .presence, .warmth], s.line.queue.countP (fun q => decide (q.request = r)) ≤ 1) ∧
  (∀ q ∈ s.line.queue, requestSound q.request) ∧
  contentionSound s.station s.line.contention ∧
  (s.line.contention ≠ .unfixed → s.line.queue ≠ []) ∧
  (s.line.followOn = true →
    s.line.sendingRequest = some .claim ∨ s.line.sendingRequest = some .presence ∨
      s.line.sendingRequest = some .warmth) ∧
  (s.phase ≠ .running → ∀ q ∈ s.line.queue, q.request.isAnswer = true) ∧
  (s.live = false → s.line.queue = []) ∧
  (s.line.counters.lineDrops ≤ 65535 ∧ s.line.counters.queueRefusals ≤ 65535 ∧ s.line.counters.badNotices ≤ 65535 ∧
    s.line.counters.tableOverflows ≤ 65535 ∧ s.line.counters.missedTurns ≤ 65535 ∧
    s.line.counters.noisyRounds ≤ 65535 ∧ s.line.counters.clippedRounds ≤ 65535 ∧
    s.line.counters.disorderedRounds ≤ 65535)

/-! ### The whole part -/

/-- Every block is sound. -/
structure State.Sound (s : State) : Prop where
  identity : s.NodeIdentity
  generator : s.GeneratorRuns
  memory : s.MemorySound
  round : s.RoundSound
  sense : s.SenseSound
  scheduler : s.SchedulerSound
  table : s.TableSound
  election : s.ElectionSound
  zone : s.ZoneSound
  light : s.LightSound
  climate : s.ClimateSound
  line : s.LineSound

/-! ### Terms of claims -/

/-- A notice ends on the line and is taken: the framer collects, and this node does not send. -/
abbrev State.hears (s : State) : Prop := s.framing = true ∧ s.line.sendingRequest = none

/-- The state in which a notice is taken: the line has been idle for 3 byte times. -/
def State.atNoticeEnd (s : State) : State := s.withLine { s.line with level := .idle (3 * byteTime) }

end Sys2Proof.Machine
end

