-- ==== Sys2Proof/Certificates/Slice0/Obligations.lean ====
section
/-! DEFINITION. The statements for the provers. Times are in ticks of 62.5 µs: `seconds n` is 16000 n (00_scope.md). A command
that names the expiry of a timer stands for that event whatever count the timer shows (the model's choice, log entry 4). -/

open Sys2Proof Sys2Proof.Machine

/-! ### The queue of commands and the part's own time -/

/-- A step takes the command at the front of the queue and runs it on the rest. -/
def Obligations.StepRunsTheFrontCommand : Prop :=
  ∀ (c : Instr) (rest : List Instr) (s : State),
    step { s with pending := c :: rest } = exec c { s with pending := rest }

/-- The model's choice (log entries 1 and 2): with no command waiting the part does nothing before step 2 of start-up;
from then on it takes one event that is due, or passes one crystal cycle where none is. What is due: the expiry of each timer at
0 in the state that owns it, a slot event at its slot, a sample at its tick, a line event at its idle time or with its time run
out, the PWM counter at 1024 or at the compare, a page cycle of 36 ms or 24 ms (R6, R8, R33, R138, R172, R173, R177, R190; by
log entry 4, the marks of slot events by log entry 22). A completion is due when the notice is sent whole and the line has been
idle for 3 byte times. A fade step waits between a hold expiry and a zone presence of one instant (R132). -/
def Obligations.IdleStepTakesADueEventOrOneCycle : Prop :=
  (∀ s : State, s.pending = [] →
    (s.phase = .held ∨ s.phase = .oscillatorWait → step s = .next s) ∧
    (s.phase ≠ .held → s.phase ≠ .oscillatorWait → s.due = [] → step s = .next (crystalCycle s)) ∧
    (∀ c, s.due = [c] → step s = exec c s) ∧
    (s.due ≠ [] → ∃ c ∈ s.due, step s = exec c s ∨ step s = exec c { s with free := s.free + 1 })) ∧
  (∀ s : State, s.phase = .held ∨ s.phase = .oscillatorWait → s.due = []) ∧
  ∀ s : State, s.phase ≠ .held → s.phase ≠ .oscillatorWait →
    let idleThree := ∃ units, s.line.level = .idle units ∧ 3 * byteTime ≤ units
    let presence := s.light.sampling = some 0 ∨
      (idleThree ∧ ∃ e a sender zone, s.line.contention = .fixed e a (.sending ⟨sender, .presence zone⟩ 0))
    let waits := s.light.occupancy = .grace ∧ s.light.graceTimer = some (seconds 120) ∧ s.prescaler = 0 ∧ presence
    let t := s.round.timer
    let idleFour := ∃ units, s.line.level = .idle units ∧ 4 * byteTime ≤ units
    (∀ x ∈ [(s.zone.hold, Instr.startUpHoldEnd), (s.sched.brisk, .briskTimerExpiry), (s.table.agingMinute, .agingMinute),
        (s.table.stirSpacing, .stirSpacingExpiry), (s.election.ageSecond, .ageSecond),
        (s.election.generationTimer, .generationTimerExpiry), (s.election.claimSpacing, .claimSpacingExpiry),
        (s.zone.settle, .settleTimerExpiry), (s.light.lockout, .lockoutExpiry),
        (s.light.presenceSpacing, .presenceSpacingExpiry), (s.climate.sampleTimer, .sampleTimerExpiry),
        (s.climate.readingHold, .readingHoldExpiry), (s.climate.warmthTimer, .warmthTimerExpiry),
        (s.climate.rosterSecond, .rosterSecond), (s.memory.rest, .restTimerExpiry),
        (s.memory.linkHoldOff, .linkHoldOffExpiry)],
      x.2 ∈ s.due ↔ x.1 = some 0) ∧
    (.endOfListenOnly ∈ s.due ↔ s.line.listenOnly = some 0 ∧ s.phase = .listenOnly) ∧
    (.probeTimerExpiry ∈ s.due ↔ s.sched.probe = some 0 ∧ s.sched.state = .resting) ∧
    (.retryDelayExpiry ∈ s.due ↔ s.sched.retry = some 0 ∧ s.sched.wait = some .delay ∧ s.phase ≠ .listenOnly) ∧
    (.wantDeadlineExpiry ∈ s.due ↔ s.sched.deadline = some 0 ∧ s.sched.state = .wanting) ∧
    (∀ level, .occupancySample level ∈ s.due ↔ s.light.sampling = some 0 ∧ level = s.light.pin) ∧
    (.holdTimerExpiry ∈ s.due ↔ s.light.holdTimer = some 0 ∧ s.light.occupancy = .occupied) ∧
    (.graceTimerExpiry ∈ s.due ↔ s.light.graceTimer = some 0 ∧ s.light.occupancy = .grace) ∧
    (.fadeTick ∈ s.due ↔ s.light.fadeTick = some 0 ∧ ¬ waits) ∧
    (.controlStep ∈ s.due ↔ s.climate.controlTimer = some 0 ∧ s.terminal = true) ∧
    (.guardStart ∈ s.due ↔ s.round.phase = .opening ∧ 12 ≤ t.slot ∧ t.guardPassed = false) ∧
    (.startOfChips ∈ s.due ↔ s.round.phase = .opening ∧ 16 ≤ t.slot) ∧
    (∀ j, .chipSignal j ∈ s.due ↔ s.round.phase = .chips ∧ j.val = t.nextChip ∧ 16 + j.val ≤ t.slot) ∧
    (.chipSample ∈ s.due ↔ s.round.phase = .chips ∧ (∃ d, s.sense.round = .sampling d) ∧ t.nextChip + 15 = t.slot ∧
      t.nextSample < 4 ∧ 40 + 16 * t.nextSample ≤ t.tick ∧ s.sense.lightConverting = false ∧
      ∀ b ∈ s.sense.burst, b.converting = false) ∧
    (.startOfSettle ∈ s.due ↔ s.round.phase = .chips ∧ 32 ≤ t.slot ∧ ¬ waits) ∧
    (.roundClose ∈ s.due ↔ s.round.phase = .settle ∧ 34 ≤ t.slot) ∧
    (.headFixing ∈ s.due ↔ s.line.contention = .unfixed ∧ s.line.queue ≠ [] ∧ idleFour) ∧
    (.backoffResume ∈ s.due ↔ s.line.queue ≠ [] ∧ idleFour ∧
      ∃ e a, s.line.contention = .fixed e a .lost ∨ ∃ units, s.line.contention = .fixed e a (.paused units)) ∧
    (.lineWin ∈ s.due ↔ s.line.queue ≠ [] ∧ idleFour ∧ ∃ e a, s.line.contention = .fixed e a (.counting 0)) ∧
    (.noticeCompletion ∈ s.due ↔ s.line.queue ≠ [] ∧ idleThree ∧ ∃ e a n, s.line.contention = .fixed e a (.sending n 0)) ∧
    (.pwmReload ∈ s.due ↔ 1024 ≤ s.light.counter) ∧
    (.compareMatch ∈ s.due ↔ s.light.drive = true ∧ s.light.active ≤ s.light.counter ∧ s.light.active < 1024) ∧
    (.saveCompletion ∈ s.due ↔ ∃ elapsed, s.memory.engine = .saving elapsed ∧ 576 ≤ elapsed) ∧
    (.clearCompletion ∈ s.due ↔ ∃ elapsed, s.memory.engine = .clearing elapsed ∧ 384 ≤ elapsed)

/-- 256 crystal cycles make a tick and 128 ticks a slot (R4). Every 256 cycles of the part pass one free-running tick, which
every running timer counts once and in no other cycle (00_scope.md, Time base). The line's own time: each cycle adds three units
of 1/6400 byte time to an idle of up to 4 byte times, and takes three from a notice that goes out and, once the line has been idle
for 4 byte times, from a backoff that counts. A notice going out keeps the line busy up to the end of its last stop bit, from
which the idle time is counted (R162, R173, R177; the units by log entry 23). -/
def Obligations.SlotLastsAHundredTwentyEightTicks : Prop :=
  (∀ t : SlotTimer, t.counting = true → t.prescaler = 0 → t.tick = 0 →
    Nat.repeat SlotTimer.cycle (128 * 256) t = { t with slot := t.slot + 1 } ∧
    ∀ n, n < 128 * 256 →
      (Nat.repeat SlotTimer.cycle n t).slot = t.slot ∧ (Nat.repeat SlotTimer.cycle n t).tick = n / 256) ∧
  (∀ (s : State) (n : Nat),
    let t := Nat.repeat crystalCycle n s
    ((∀ e a notice left, s.line.contention ≠ .fixed e a (.sending notice (left + 1))) →
      (s.line.level = .busy → t.line.level = .busy) ∧
      (∀ units, s.line.level = .idle units → units ≤ 4 * byteTime →
        t.line.level = .idle (min (4 * byteTime) (units + 3 * n)))) ∧
    (∀ e a left, s.line.contention = .fixed e a (.counting left) →
      (s.line.level = .busy ∨ (∃ units, s.line.level = .idle units ∧ units + 3 * n ≤ 4 * byteTime) →
        t.line.contention = s.line.contention) ∧
      (s.line.level = .idle (4 * byteTime) → t.line.contention = .fixed e a (.counting (left - 3 * n)))) ∧
    (∀ e a notice left, s.line.contention = .fixed e a (.sending notice left) →
      t.line.contention = .fixed e a (.sending notice (left - 3 * n)) ∧
      (0 < n → 3 * n < left → t.line.level = .busy) ∧
      (0 < left → left ≤ 3 * n → t.line.level = .idle (min (4 * byteTime) (3 * n - left)))) ∧
    (s.line.contention = .unfixed ∨
        (∃ e a, s.line.contention = .fixed e a .lost ∨ ∃ left, s.line.contention = .fixed e a (.paused left)) →
      t.line.contention = s.line.contention) ∧
    t.line.queue = s.line.queue ∧ t.line.framer = s.line.framer ∧ t.line.followOn = s.line.followOn ∧
    t.line.counters = s.line.counters) ∧
  ∀ s : State, s.prescaler = 0 →
    (∀ n, n < 256 →
      let t := Nat.repeat crystalCycle n s
      t.prescaler = n ∧ t.sched = s.sched ∧ t.table = s.table ∧ t.election = s.election ∧ t.zone = s.zone ∧
      t.light = { s.light with counter := s.light.counter + n } ∧ t.climate = s.climate ∧
      t.line.listenOnly = s.line.listenOnly ∧ t.memory = s.memory) ∧
    let t := Nat.repeat crystalCycle 256 s
    let less (timer : Timer) : Timer := timer.map (fun left => left - 1)
    t.prescaler = 0 ∧ t.phase = s.phase ∧ t.sense = s.sense ∧ t.rng = s.rng ∧ t.pending = s.pending ∧
    t.zone.hold = less s.zone.hold ∧
    (s.live = true →
      t.sched = { s.sched with
        brisk := less s.sched.brisk, probe := less s.sched.probe, deadline := less s.sched.deadline
        retry := less s.sched.retry } ∧
      t.table = { s.table with stirSpacing := less s.table.stirSpacing, agingMinute := less s.table.agingMinute } ∧
      t.election = { s.election with
        generationTimer := less s.election.generationTimer, claimSpacing := less s.election.claimSpacing
        ageSecond := less s.election.ageSecond } ∧
      t.zone = { s.zone with settle := less s.zone.settle, hold := less s.zone.hold } ∧
      t.light = { s.light with
        sampling := less s.light.sampling, lockout := less s.light.lockout, holdTimer := less s.light.holdTimer
        graceTimer := less s.light.graceTimer, presenceSpacing := less s.light.presenceSpacing
        fadeTick := less s.light.fadeTick, counter := s.light.counter + 256 } ∧
      t.climate = { s.climate with
        readingHold := less s.climate.readingHold, sampleTimer := less s.climate.sampleTimer
        warmthTimer := less s.climate.warmthTimer, rosterSecond := less s.climate.rosterSecond
        controlTimer := less s.climate.controlTimer } ∧
      t.line.listenOnly = less s.line.listenOnly ∧
      t.memory = { s.memory with
        rest := less s.memory.rest, linkHoldOff := less s.memory.linkHoldOff
        engine := match s.memory.engine with
          | .idle => .idle
          | .saving elapsed => .saving (elapsed + 1)
          | .clearing elapsed => .clearing (elapsed + 1) })

/-- The generator: the shift, the feedback bit, no way to 0, no two states with one successor, and draws within 0..n; its seed is
the low 16 bits of the station, or 0001 (R1). -/
def Obligations.GeneratorAdvanceAndDraws : Prop :=
  (∀ station : Station,
    lfsrSeed station ≠ 0 ∧
    (lfsrSeed station).toNat = if station.toNat % 65536 = 0 then 1 else station.toNat % 65536) ∧
  ∀ g : BitVec 16,
    (∀ i, i < 15 → (lfsrNext g).getLsbD i = g.getLsbD (i + 1)) ∧
    (lfsrNext g).getLsbD 15 = (g.getLsbD 0 ^^ g.getLsbD 2 ^^ g.getLsbD 3 ^^ g.getLsbD 5) ∧
    (g ≠ 0 → lfsrNext g ≠ 0) ∧
    (∀ h, lfsrNext h = lfsrNext g → h = g) ∧
    ∀ n, drawFrom g n ≤ n ∧ drawFrom g n = g.toNat * (n + 1) / 65536

/-! ### Start-up -/

/-- RESET puts every block in its reset state: the values each chapter gives, both compares 0 and the drive forced low, the
timers that start with start-up or listen-only stopped (R3, R45, R108, R121, R141, R143, R180). The strap latch is then 0, the
generator at its seed, the tick's prescaler 0, the probe timer stopped, the PWM counter 0, the line busy, the count of entries 0 and
the marks of the slot events clear by log entries 7, 8, 40, 24, 19, 13, 31 and 22, with the pin's level kept by log entry 16. It leaves the pages
of an engine at rest, and the commands waiting (log entry 32). Of a page cycle that it cuts 8 ms or more in, page 1 being
erased by then (R190), it leaves no good record. Cut within the first 8 ms, page 1 alone may change, by bits raised: where one
has, a good record is good no more; where none has, the previous record stands. Page 0 stays in each case (R190, R191, R195;
the time of the cut by log entry 11). -/
def Obligations.ResetPutsEveryBlockInItsResetState : Prop :=
  ∀ s : State, ∃ t, exec .reset s = .next t ∧ t.phase = .held ∧ t.pending = s.pending ∧
    (t.straps = 0 ∧ t.rng = lfsrSeed s.station ∧ t.prescaler = 0) ∧
    (t.round.phase = .none ∧ t.round.probers = [] ∧ t.round.own = none ∧ t.round.disordered = false ∧
      t.round.timer.counting = false ∧ t.round.timer.slot = 0 ∧ t.round.timer.tick = 0 ∧
      t.round.timer.prescaler = 0 ∧ t.round.timer.guardPassed = false ∧ t.round.timer.nextChip = 0 ∧
      t.round.timer.nextSample = 0 ∧ t.round.override = none) ∧
    (t.sense.round = .idle ∧ t.sense.lightConverting = false ∧ t.sense.burst = none ∧ t.sense.lastSelf = none) ∧
    (t.sched.mode = .brisk ∧ t.sched.brisk = some (seconds 600) ∧ t.sched.state = .resting ∧ t.sched.wait = none ∧
      t.sched.deadline = none ∧ t.sched.retry = none ∧ t.sched.probe = none) ∧
    (t.table.slots = List.replicate 16 none ∧ t.table.suspect = 0 ∧ t.table.sensor = .ok ∧
      t.table.stirSpacing = none ∧ t.table.agingMinute = none) ∧
    (t.election.roots = List.replicate 16 none ∧ t.election.ageSecond = none ∧ t.election.ownGeneration = 0 ∧
      t.election.derived = ⟨s.station, 0, 0⟩ ∧ t.election.parent = none ∧ t.election.generationTimer = none ∧
      t.election.announced = none ∧ t.election.claimSpacing = none) ∧
    (t.zone.working = s.station ∧ t.zone.derivedCopy = s.station ∧ t.zone.settle = none ∧ t.zone.hold = none) ∧
    (t.light.occupancy = .vacant ∧ t.light.target = 0 ∧ t.light.output = 0 ∧ t.light.holdTimer = none ∧
      t.light.graceTimer = none ∧ t.light.lockout = none ∧ t.light.presenceSpacing = none ∧
      t.light.windowCount = 0 ∧ t.light.activeCount = 0 ∧ t.light.held = false ∧ t.light.task = 700 ∧
      t.light.sampling = none ∧ t.light.sampled = none ∧ t.light.pin = s.light.pin ∧ t.light.fadeTick = none) ∧
    (t.light.buffered = 0 ∧ t.light.active = 0 ∧ t.light.drive = false ∧ t.light.counter = 0) ∧
    (t.climate.sampleTimer = none ∧ t.climate.warmthTimer = none ∧ t.climate.rosterSecond = none ∧
      t.climate.controlTimer = none) ∧
    (t.climate.reading = none ∧ t.climate.readingHold = none ∧ t.climate.roster = List.replicate 24 none ∧
      t.climate.lastMean = none ∧ t.climate.damper = 0 ∧ t.climate.setpoint = 235 ∧ t.climate.setback = 30) ∧
    (t.line.queue = [] ∧ t.line.contention = .unfixed ∧ t.line.followOn = false ∧ t.line.framer = .off ∧
      t.line.counters = ⟨0, 0, 0, 0, 0, 0, 0, 0⟩ ∧ t.line.listenOnly = none ∧ t.line.level = .busy ∧ t.line.entries = 0 ∧
      t.drives = .recessive) ∧
    (t.memory.engine = .idle ∧ t.memory.rest = none ∧ t.memory.pendingSave = false ∧
      t.memory.pendingClear = false ∧ t.memory.linkHoldOff = none ∧ t.memory.snapshot = none) ∧
    (s.memory.engine = .idle → t.memory.nv = s.memory.nv) ∧
    (∀ elapsed, s.memory.nv.wf = true → milliseconds 8 ≤ elapsed →
      s.memory.engine = .saving elapsed ∨ s.memory.engine = .clearing elapsed →
      t.memory.nv.goodRecord = false ∧ ∀ a, a < 32 → t.memory.nv.read a = s.memory.nv.read a) ∧
    (∀ elapsed, s.memory.nv.wf = true → elapsed < milliseconds 8 →
      s.memory.engine = .saving elapsed ∨ s.memory.engine = .clearing elapsed →
      (∀ a, a < 32 ∨ 64 ≤ a → t.memory.nv.read a = s.memory.nv.read a) ∧
      (∀ a, t.memory.nv.read a &&& s.memory.nv.read a = s.memory.nv.read a) ∧
      (s.memory.nv.goodRecord = true → (∃ a, t.memory.nv.read a ≠ s.memory.nv.read a) →
        t.memory.nv.goodRecord = false) ∧
      ((∀ a, t.memory.nv.read a = s.memory.nv.read a) → t.memory.nv = s.memory.nv))

/-- RESET_RELEASE latches the straps and starts the output stage at the compare of level 0 (log entry 19); outside reset it
changes nothing (the model's choice, log entry 3). What each strap selects (R141, R194, R197). -/
def Obligations.ResetReleaseLatchesTheStraps : Prop :=
  (∀ (pins : Straps) (s : State),
    let r := if pins.getLsbD 4 then 524 else 24
    (s.phase = .held →
      exec (.resetRelease pins) s =
        .next { s with
          phase := .oscillatorWait, straps := pins,
          light := { s.light with counter := r, buffered := r, active := r, drive := false } }) ∧
    (s.phase ≠ .held → exec (.resetRelease pins) s = .next s)) ∧
  ∀ s : State,
    s.terminal = s.straps.getLsbD 10 ∧
    s.sensClass = 2 * (s.straps.getLsbD 9).toNat + (s.straps.getLsbD 8).toNat ∧
    s.depth = 20 * (2 * (s.straps.getLsbD 7).toNat + (s.straps.getLsbD 6).toNat + 1) ∧
    s.gain = (if s.straps.getLsbD 5 then 2 else 1) ∧
    s.reload = (if s.straps.getLsbD 4 then 524 else 24) ∧
    s.holdTime = seconds (match s.straps.getLsbD 3, s.straps.getLsbD 2 with
      | false, false => 300 | false, true => 600 | true, false => 900 | true, true => 1800) ∧
    s.occMode = 2 * (s.straps.getLsbD 1).toNat + (s.straps.getLsbD 0).toNat

/-- OSCILLATOR_WAIT_END: the hold of 90 s starts and the generator is seeded; without a good record every receiver keeps
its reset value; a good record restores the working root, the operating values, and a RESUMED entry for every link
position that is not passed over, each station once, in record order in the lowest slots (R59, R60, R108, R185, R195). -/
def Obligations.OscillatorWaitEndRestoresAGoodRecord : Prop :=
  ∀ s : State, s.phase = .oscillatorWait →
    let nv := s.memory.nv
    let restored (i : Station) : Prop := isNode i = true ∧ i ≠ s.station ∧
      ∃ v, (i, v) ∈ nv.recordLinks ∧ (v = 0xFFFF ∨ (thresholds s.sensClass).2 ≤ v.toNat)
    let stations : List Station := nv.recordLinks.foldl
      (fun taken x =>
        if isNode x.1 = true ∧ x.1 ≠ s.station ∧ (x.2 = 0xFFFF ∨ (thresholds s.sensClass).2 ≤ x.2.toNat) ∧ x.1 ∉ taken
        then taken ++ [x.1] else taken) []
    (nv.goodRecord = false →
      exec .oscillatorWaitEnd s =
        .next { s with
          phase := .restored, rng := lfsrSeed s.station, zone := { s.zone with hold := some (seconds 90) } }) ∧
    (nv.goodRecord = true → s.table.slots = List.replicate 16 none →
      ∃ slots, exec .oscillatorWaitEnd s =
          .next { s with
            phase := .restored, rng := lfsrSeed s.station
            zone := { s.zone with
              hold := some (seconds 90)
              working := if isNode nv.recordWorking = true ∧ nv.recordWorking ≤ s.station
                then nv.recordWorking else s.station }
            climate := { s.climate with
              setpoint := max 150 (min 300 nv.recordSetpoint), setback := min 60 nv.recordSetback }
            light := { s.light with task := min 1000 nv.recordTask }
            table := { s.table with slots := slots } } ∧
        slots.length = 16 ∧
        slots = stations.map (fun i => some ⟨i, none, none, none, .resumed, none, 0⟩) ++
          List.replicate (16 - stations.length) none ∧
        (∀ i, restored i ↔ ∃ e ∈ entriesOf slots, e.station = i) ∧
        ∀ e ∈ entriesOf slots, e = ⟨e.station, none, none, none, .resumed, none, 0⟩)

/-- START_OF_LISTEN_ONLY starts the framer, the timers of the blocks, the first probe timer, the first burst and the occupancy
sampling, with pulse mode's first sample (R45, R122, R144, R180, R195; the brisk timer by log entry 24, the control-step timer
by log entry 20, the line's level by log entry 13, the level at the occupancy pin by log entry 16). -/
def Obligations.StartOfListenOnlyStartsTheTimers : Prop :=
  ∀ s : State, s.phase = .restored → s.round.phase = .none → s.sense.burst = none → s.sense.lightConverting = false →
    exec .startOfListenOnly s =
      .next { s with
        phase := .listenOnly
        rng := lfsrNext s.rng
        sense := { s.sense with burst := some ⟨[], true⟩ }
        sched := { s.sched with
          mode := .brisk, brisk := some (seconds 600),
          probe := some (seconds 2 + 160 * drawFrom (lfsrNext s.rng) 800) }
        table := { s.table with agingMinute := some (seconds 60) }
        election := { s.election with ageSecond := some (seconds 1) }
        light := { s.light with
          fadeTick := some (milliseconds 25)
          sampled := if s.occMode = 2 then some s.light.pin else none
          sampling := if s.occMode = 3 then none else if s.occMode = 2 then some 1 else some (milliseconds 10) }
        climate := { s.climate with
          sampleTimer := some (seconds 10), rosterSecond := some (seconds 1),
          controlTimer := if s.terminal then some (seconds 60) else none }
        line := { s.line with framer := .awaitingIdle, level := .busy, listenOnly := some (seconds 2) } }

/-- END_OF_LISTEN_ONLY: the queue takes every kind, the WARMTH timer starts, and the first derivation is held, handed on
where it is new or differs from the working root (log entry 21), begins root duty, and is announced (R105, R143, R180). -/
def Obligations.EndOfListenOnlyDerivesAndAnnounces : Prop :=
  ∀ s : State, s.phase = .listenOnly → s.election.announced = none → s.election.claimSpacing = none →
    let best := s.bestCandidate
    exec .endOfListenOnly s =
      .next (offer .claim { s with
        phase := .running
        line := { s.line with listenOnly := none }
        climate := { s.climate with warmthTimer := some (seconds 60) }
        election := { s.election with
          derived := best.claim, parent := best.parent
          generationTimer := if best.claim.root = s.station then some (seconds 30) else s.election.generationTimer }
        zone :=
          if s.election.derived.root ≠ best.claim.root ∨ best.claim.root ≠ s.zone.working then
            { s.zone with
              derivedCopy := best.claim.root
              settle := if s.zone.hold.isSome then s.zone.settle
                else if best.claim.root = s.zone.working then none else some (seconds 60) }
          else s.zone })

/-! ### Probe rounds -/

/-- A CALL taken in NONE opens a round. In OPENING or CHIPS it marks the view disordered, counts the change from clear, and
in CHIPS abandons the samples; in SETTLE it is ignored (R11 to R13, R31). -/
def Obligations.CallOpensDisordersOrIsIgnored : Prop :=
  ∀ (sender : Station) (depth : Byte) (s : State), s.hears → depthAllowed depth.toNat → isNode sender = true →
    (s.round.phase = .none →
      exec (.call sender depth) s =
        .next { s.atNoticeEnd with
          round := { s.round with
            phase := .opening, probers := [⟨sender, depth.toNat, 1⟩],
            own := if sender = s.station then some 1 else none, disordered := false,
            timer := ⟨true, 0, 0, 0, false, 0, 0⟩ }
          sched := if sender = s.station ∧ s.sched.state ≠ .probing then
              { s.sched with state := .probing, probe := none, wait := none, deadline := none, retry := none }
            else s.sched }) ∧
    (s.round.phase = .opening ∨ s.round.phase = .chips →
      exec (.call sender depth) s =
        .next { s.atNoticeEnd with
          round := { s.round with disordered := true }
          sense := match s.round.phase, s.sense.round with
            | .chips, .sampling _ => { s.sense with round := .idle }
            | _, _ => s.sense
          line := { s.line with
            level := .idle (3 * byteTime)
            counters := if s.round.disordered then s.line.counters
              else { s.line.counters with disorderedRounds := bump s.line.counters.disorderedRounds } } }) ∧
    (s.round.phase = .settle → exec (.call sender depth) s = .next s.atNoticeEnd)

/-- A JOIN taken in OPENING is appended where it states the next position and its sender is new, and otherwise marks the
view disordered; outside OPENING it is ignored (R14 to R16). -/
def Obligations.JoinAppendsDisordersOrIsIgnored : Prop :=
  ∀ (sender : Station) (depth position : Byte) (s : State), s.hears →
    depthAllowed depth.toNat → 2 ≤ position.toNat → position.toNat ≤ 6 → isNode sender = true →
    (s.round.phase = .opening →
      exec (.join sender depth position) s =
        .next
          (if position.toNat = s.round.probers.length + 1 ∧ ∀ r ∈ s.round.probers, r.station ≠ sender then
            { s.atNoticeEnd with
              round := { s.round with
                probers := s.round.probers ++ [⟨sender, depth.toNat, position.toNat⟩]
                own := if sender = s.station then some position.toNat else s.round.own }
              sched := if sender = s.station ∧ s.sched.state ≠ .probing then
                  { s.sched with state := .probing, probe := none, wait := none, deadline := none, retry := none }
                else s.sched }
          else
            { s.atNoticeEnd with
              round := { s.round with disordered := true }
              line := { s.line with
                level := .idle (3 * byteTime)
                counters := if s.round.disordered then s.line.counters
                  else { s.line.counters with disorderedRounds := bump s.line.counters.disorderedRounds } } })) ∧
    (s.round.phase ≠ .opening → exec (.join sender depth position) s = .next s.atNoticeEnd)

/-- A withdrawal takes the pending request out and leaves the others in order; where the fixed head goes, the next request
is fixed if the line has been idle for 4 byte times; a notice being sent is not withdrawn. GUARD_START, WANT_DEADLINE_EXPIRY
and READING_HOLD_EXPIRY withdraw what their owner holds (R20, R46, R54, R55, R146, R148, R179; the slot counter and its
marks by log entry 22; that the next head's backoff is drawn before the probe timer's jitter by log entry 36). -/
def Obligations.OwnersWithdrawTheirPendingRequests : Prop :=
  (∀ (r : Request) (s : State), s.LineSound → heldOnce r = true →
    (s.line.sendingRequest = some r → withdraw r s = { s with line := { s.line with followOn := false } }) ∧
    (s.line.sendingRequest ≠ some r →
      (withdraw r s).line.queue = s.line.queue.filter (fun q => decide (q.request ≠ r)) ∧
      (s.line.contention = .unfixed ∨ (∃ q ∈ s.line.queue.head?, q.request ≠ r) →
        withdraw r s =
          { s with line := { s.line with queue := s.line.queue.filter (fun q => decide (q.request ≠ r)) } }) ∧
      (∀ e a h q rest, s.line.contention = .fixed e a h → s.line.queue = q :: rest → q.request = r →
        withdraw r s =
          fixHead { s with line := { s.line with queue := rest, contention := .unfixed, followOn := false } }))) ∧
  (∀ s : State, s.round.phase = .opening → s.round.timer.guardPassed = false →
    let marked : State := { s with
      round := { s.round with
        timer := { s.round.timer with slot := 12, tick := 0, prescaler := 0, guardPassed := true } } }
    exec .guardStart s =
      .next
        (if s.line.pendingRequest .callJoin then
          { withdraw .callJoin marked with
            sched := if s.sched.state = .wanting ∧ s.sched.wait = some .queued
              then { s.sched with wait := some .closeWait } else s.sched }
        else marked)) ∧
  (∀ s : State, s.sched.state = .wanting → s.sched.deadline.isSome = true →
    let left := if s.sched.wait = some .queued ∧ s.line.pendingRequest .callJoin = true
      then withdraw .callJoin s else s
    exec .wantDeadlineExpiry s =
      .next { left with
        rng := lfsrNext left.rng
        line := { left.line with
          counters := { s.line.counters with missedTurns := bump s.line.counters.missedTurns } }
        sched := { s.sched with
          state := .resting, wait := none, deadline := none, retry := none
          probe := some (match s.sched.mode with
            | .normal => seconds 240 + 160 * drawFrom (lfsrNext left.rng) 3000
            | .brisk => seconds 20 + 160 * drawFrom (lfsrNext left.rng) 250) } }) ∧
  (∀ s : State, s.climate.readingHold.isSome = true →
    exec .readingHoldExpiry s =
      .next (withdraw .warmth { s with climate := { s.climate with reading := none, readingHold := none } }))

/-- START_OF_CHIPS fixes the list, begins the override on the frozen base where this node is listed, and starts the Sense
Unit on an ordered view; CHIP_SIGNAL loads the compare of H on a "+" chip of the own code and of L on a "−" chip
(R7, R8, R24, R25, R30; the slot counter and its marks by log entry 22). -/
def Obligations.ChipsFreezeTheBaseAndDriveTheCode : Prop :=
  ∀ s : State,
    (s.round.phase = .opening → s.sense.round = .idle →
      exec .startOfChips s =
        .next { s with
          round := { s.round with
            phase := .chips
            timer := { s.round.timer with
              slot := 16, tick := 0, prescaler := 0, guardPassed := true, nextChip := 0, nextSample := 0 }
            override := if s.round.own = none then none
              else if s.depth ≤ s.light.output then some ⟨s.light.output, s.light.output, s.light.output - s.depth⟩
              else some ⟨s.light.output, s.light.output + s.depth, s.light.output⟩ }
          sense := if s.round.disordered then s.sense
            else { s.sense with
              round := .sampling ⟨s.round.probers, s.round.own, 0, [], [], [0, 0, 0, 0, 0, 0], 0, false⟩ } }) ∧
    (∀ j : Fin 16, s.round.phase = .chips →
      exec (.chipSignal j) s =
        .next { s with
          round := { s.round with
            timer := { s.round.timer with
              slot := 16 + j.val, tick := 0, prescaler := 0, nextChip := j.val + 1, nextSample := 0 } }
          light := match s.round.override, s.round.own with
            | some levels, some position =>
              { s.light with
                buffered := s.reload +
                  (if (codeSigns (some position)).getD j.val false then levels.high else levels.low) *
                    (1024 - s.reload) / 1000 }
            | _, _ => s.light })

/-- START_OF_SETTLE: the override ends, the fade makes one step from the base, a held burst resumes, and the Sense Unit
computes (R9, R28, R35 to R39, R136, R140; the slot counter by log entry 22; that a held burst waits on while a light
conversion runs by log entry 39). -/
def Obligations.StartOfSettleEndsTheOverrideAndComputes : Prop :=
  ∀ s : State, s.round.phase = .chips →
    let level :=
      if s.light.output < s.light.target then min (s.light.output + 10) s.light.target
      else if s.light.target < s.light.output then max (s.light.output - 2) s.light.target
      else s.light.output
    exec .startOfSettle s =
      .next { s with
        round := { s.round with
          phase := .settle, override := none,
          timer := { s.round.timer with slot := 32, tick := 0, prescaler := 0 } }
        light := { s.light with output := level, buffered := s.reload + level * (1024 - s.reload) / 1000 }
        sense := { s.sense with
          burst := s.sense.burst.map (fun b => { b with converting := b.converting || !s.sense.lightConverting })
          round := match s.sense.round with
            | .sampling d =>
              .ready (d.records.map (fun r => ⟨r.station, r.position, d.findingOf s.gain r⟩))
                (if d.clip then .clipped else if 224 ≤ d.nullAcc.natAbs then .noisy else .valid)
            | r => r } }

/-- The outcome of one record (R36 to R39). -/
def Obligations.FindingFollowsJudgementResponseAndIndex : Prop :=
  ∀ (d : Sampling) (gain : Nat) (r : ProberRecord), depthAllowed r.depth → gain = 1 ∨ gain = 2 →
    let response := (d.accs.getD (r.position - 1) 0).tdiv 32
    d.findingOf gain r =
      (if d.clip then .clipped
       else if 7 ≤ d.nullAcc.natAbs / 32 then .noisy
       else if response ≤ 0 then .index 0
       else if 4095 < response.toNat * 1000 / (r.depth * gain) then .index 4095
       else .index (response.toNat * 1000 / (r.depth * gain))) ∧
    findingInRange (d.findingOf gain r)

/-- Sixteen chips of four conversions leave in every accumulator the correlation of the sixteen chip sums with its code,
and the clip mark where a code was 4095. The codes are those of the table of R23; they have eight "+" chips each, any two
agree in exactly eight chips, and steady or ramping light adds nothing to a correlation with any of them (R23, R30, R33 to
R35). -/
def Obligations.SixtyFourConversionsGiveTheCorrelations : Prop :=
  (∀ (records : List ProberRecord) (own : Option Nat) (codes : List AdcCode), codes.length = 64 →
    let d := codes.foldl Sampling.takeCode (Sampling.start records own)
    let sums := (List.range 16).map (fun j => (((codes.drop (4 * j)).take 4).map BitVec.toNat).sum)
    d.chip = 16 ∧ d.codes = [] ∧ d.sums = sums ∧ d.records = records ∧
    (∀ i, i < 6 → d.accs.getD i 0 =
      if records.any (fun r => decide (r.position = i + 1)) then correlationOf (some (i + 1)) sums else 0) ∧
    d.nullAcc = correlationOf none sums ∧
    (d.clip = true ↔ 4095#12 ∈ codes)) ∧
  ([some 1, some 2, some 3, some 4, some 5, some 6, none].map codeSigns =
    ["+--++--++--++--+", "+-+--+-++-+--+-+", "++----++++----++", "+-+-+-+--+-+-+-+", "++--++----++--++", "++++--------++++",
      "+--+-++--++-+--+"].map (fun chips => chips.toList.map (fun c => c == '+'))) ∧
  ∀ p ∈ [none, some 1, some 2, some 3, some 4, some 5, some 6],
    (codeSigns p).length = 16 ∧ (codeSigns p).count true = 8 ∧
    (∀ q ∈ [none, some 1, some 2, some 3, some 4, some 5, some 6], p ≠ q →
      (((codeSigns p).zip (codeSigns q)).countP (fun x => x.1 == x.2)) = 8) ∧
    ∀ a b : Nat, correlationOf p ((List.range 16).map (fun j => a + b * j)) = 0

/-- ROUND_CLOSE. Without results the scheduler takes the close; a measured round's results go to the counter of its
judgement, the last self-coupling and the sensor health, each index of another prober is stored or admitted in prober-list
order while the sensor is OK, and the TALLY composed after that is offered; all of it before or after the scheduler's close
(log entry 9). The Sense Unit is then in IDLE and the view in NONE (R10, R38, R40 to R42, R53, R54, R57, R61, R79, R80). -/
def Obligations.RoundCloseDeliversTheResults : Prop :=
  ∀ s : State, s.round.phase = .settle →
    let view : RoundController := ⟨.none, [], none, false, ⟨false, 0, 0, 0, false, 0, 0⟩, none⟩
    (s.sense.round = .idle →
      exec .roundClose s =
        .next
          (match s.sched.state, s.sched.wait with
          | .probing, _ =>
            { s with
              round := view, rng := lfsrNext s.rng
              sched := { s.sched with
                state := .resting, wait := none, deadline := none, retry := none
                probe := some (match s.sched.mode with
                  | .normal => seconds 240 + 160 * drawFrom (lfsrNext s.rng) 3000
                  | .brisk => seconds 20 + 160 * drawFrom (lfsrNext s.rng) 250) } }
          | .wanting, some .closeWait =>
            { s with
              round := view, rng := lfsrNext s.rng
              sched := { s.sched with wait := some .delay, retry := some (drawFrom (lfsrNext s.rng) 15 * 128) } }
          | _, _ => { s with round := view })) ∧
    (∀ results judgement, s.sense.round = .ready results judgement →
      let self := (results.find? (fun r => decide (r.station = s.station))).map (fun r => r.finding)
      ∃ t, exec .roundClose s = .next t ∧
        t.round = view ∧
        t.sense = { s.sense with round := .idle, lastSelf := if self = none then s.sense.lastSelf else self } ∧
        t.line.counters.noisyRounds =
          (if judgement = .noisy then bump s.line.counters.noisyRounds else s.line.counters.noisyRounds) ∧
        t.line.counters.clippedRounds =
          (if judgement = .clipped then bump s.line.counters.clippedRounds else s.line.counters.clippedRounds) ∧
        (match self with
          | none => t.table.suspect = s.table.suspect ∧ t.table.sensor = s.table.sensor
          | some (.index k) =>
            if 100 ≤ k then t.table.suspect = 0 ∧ t.table.sensor = .ok
            else t.table.suspect = min 3 (s.table.suspect + 1) ∧
              t.table.sensor = if t.table.suspect = 3 then .suspect else s.table.sensor
          | some _ => t.table.suspect = min 3 (s.table.suspect + 1) ∧
              t.table.sensor = if t.table.suspect = 3 then .suspect else s.table.sensor) ∧
        (s.sched.state = .probing → t.sched.state = .resting ∧ t.sched.probe.isSome = true) ∧
        (t.phase = s.phase ∧ t.straps = s.straps ∧ t.light = s.light ∧ t.climate = s.climate ∧
          t.zone.working = s.zone.working ∧ t.election.roots = s.election.roots ∧ t.memory.nv = s.memory.nv)) ∧
    (∀ (results : List ProbeResult) (judgement : Judgement), s.sense.round = .ready results judgement →
      let self : Option Finding := (results.find? (fun r => decide (r.station = s.station))).map (fun r => r.finding)
      let good : Bool := match self with | some (.index k) => decide (100 ≤ k) | _ => false
      let slotOf (x : State) (i : Station) : Option Nat :=
        x.table.slots.findIdx? (fun e => e.any (fun e => decide (e.station = i)))
      let deliver (x : State) : State :=
        let judged : State := { x with
          line := { x.line with
            counters := match judgement with
              | .valid => x.line.counters
              | .noisy => { x.line.counters with noisyRounds := bump x.line.counters.noisyRounds }
              | .clipped => { x.line.counters with clippedRounds := bump x.line.counters.clippedRounds } }
          sense := { x.sense with round := .idle, lastSelf := if self = none then x.sense.lastSelf else self }
          table :=
            if self = none then x.table
            else if good then { x.table with suspect := 0, sensor := .ok }
            else { x.table with
              suspect := min 3 (x.table.suspect + 1)
              sensor := if min 3 (x.table.suspect + 1) = 3 then .suspect else x.table.sensor } }
        let stored : State := (results.filter (fun r => decide (r.station ≠ s.station))).foldl
          (fun (y : State) (r : ProbeResult) =>
            match r.finding with
            | .index k =>
              if y.table.sensor = .suspect then y
              else match slotOf y r.station with
                | some i => storeSeen i k y
                | none => admission r.station .seen k y
            | .noisy | .clipped => y) judged
        let items : List (Station × Half) := results.filterMap (fun (r : ProbeResult) =>
          let value : Half := match r.finding with
            | .index k => BitVec.ofNat 16 k | .noisy => 0xF001 | .clipped => 0xF002
          let large : Bool := match r.finding with | .index k => decide (32 ≤ k) | .noisy | .clipped => false
          if r.station = s.station then (if large then some (r.station, value) else none)
          else if decide (stored.table.sensor = .ok) && ((slotOf stored r.station).isSome || large)
            then some (r.station, value) else none)
        if s.round.disordered = true ∨ items = [] then stored else offer (.tally items) stored
      let close (x : State) : State :=
        match x.sched.state, x.sched.wait with
        | .probing, _ =>
          { x with
            rng := lfsrNext x.rng
            sched := { x.sched with
              state := .resting, wait := none, deadline := none, retry := none
              probe := some (match x.sched.mode with
                | .normal => seconds 240 + 160 * drawFrom (lfsrNext x.rng) 3000
                | .brisk => seconds 20 + 160 * drawFrom (lfsrNext x.rng) 250) } }
        | .wanting, some .closeWait =>
          { x with
            rng := lfsrNext x.rng
            sched := { x.sched with wait := some .delay, retry := some (drawFrom (lfsrNext x.rng) 15 * 128) } }
        | _, _ => x
      ∃ t, exec .roundClose s = .next t ∧
        ({ t with free := s.free } = { close (deliver s) with round := view } ∨
          { t with free := s.free } = { deliver (close s) with round := view }))

/-! ### The converter -/

/-- CHIP_SAMPLE starts a light conversion of a Sense Unit in SAMPLING, at the tick of its place in the chip; the converter does
one conversion at a time, so that none starts while another runs. LIGHT_CONVERSION_END takes the code, and after the fourth
forms the chip sum; outside SAMPLING the code is discarded (R26, R31, R33, R34; the tick and its marks by log
entry 22, a sample that finds the converter at work and a burst that waits outside CHIPS by log entry 39). -/
def Obligations.LightConversionsFormChipSums : Prop :=
  ∀ (s : State) (code : AdcCode),
    (s.sense.lightConverting = true ∨ (∃ b ∈ s.sense.burst, b.converting = true) → exec .chipSample s = .next s) ∧
    (∀ d, s.sense.round = .sampling d → s.sense.lightConverting = false → (∀ b ∈ s.sense.burst, b.converting = false) →
      s.round.timer.nextSample < 4 → s.round.timer.tick ≤ 40 + 16 * s.round.timer.nextSample →
      exec .chipSample s =
        .next { s with
          round := { s.round with
            timer := { s.round.timer with
              tick := 40 + 16 * s.round.timer.nextSample, nextSample := s.round.timer.nextSample + 1 } }
          sense := { s.sense with lightConverting := true } }) ∧
    ((∀ d, s.sense.round ≠ .sampling d) → exec .chipSample s = .next s) ∧
    (s.sense.lightConverting = true →
      exec (.lightConversionEnd code) s =
        .next { s with
          sense := { s.sense with
            lightConverting := false
            burst := if s.round.phase = .chips then s.sense.burst
              else s.sense.burst.map (fun b => { b with converting := true })
            round := match s.sense.round with
              | .sampling d => .sampling (d.takeCode code)
              | r => r } }) ∧
    (∀ d : Sampling, d.chip < 16 → d.codes.length < 4 →
      (d.takeCode code).clip = (d.clip || decide (code = 4095)) ∧
      (d.codes.length < 3 → (d.takeCode code).codes = d.codes ++ [code] ∧ (d.takeCode code).sums = d.sums ∧
        (d.takeCode code).accs = d.accs ∧ (d.takeCode code).nullAcc = d.nullAcc ∧ (d.takeCode code).chip = d.chip) ∧
      (d.codes.length = 3 →
        let sum := (d.codes.map BitVec.toNat).sum + code.toNat
        (d.takeCode code).codes = [] ∧ (d.takeCode code).sums = d.sums ++ [sum] ∧
        (d.takeCode code).chip = d.chip + 1 ∧
        (d.takeCode code).nullAcc = d.nullAcc + (if (codeSigns none).getD d.chip false then (sum : Int) else -sum) ∧
        ∀ i, i < d.accs.length → (d.takeCode code).accs.getD i 0 =
          d.accs.getD i 0 + (if ¬ d.assigned (i + 1) then 0
            else if (codeSigns (some (i + 1))).getD d.chip false then (sum : Int) else -sum)))

/-- SAMPLE_TIMER_EXPIRY restarts the timer and asks for a burst, held while the view is in CHIPS (and while a light conversion
runs, log entry 39); a burst that is there
already stays. TEMPERATURE_CONVERSION_END: the burst goes on, held in CHIPS; its eighth code hands all eight over: a valid
burst makes a reading with a hold of 180 s and on a terminal node writes the own roster entry, an invalid one nothing
(R27, R28, R144 to R146, R152). -/
def Obligations.TemperatureBurstMakesAReading : Prop :=
  (∀ s : State, s.climate.sampleTimer.isSome = true →
    exec .sampleTimerExpiry s =
      .next { s with
        climate := { s.climate with sampleTimer := some (seconds 10) }
        sense := if s.sense.burst = none
          then { s.sense with burst := some ⟨[], decide (s.round.phase ≠ .chips) && !s.sense.lightConverting⟩ }
          else s.sense }) ∧
  ∀ (s : State) (b : Burst) (code : AdcCode), s.sense.burst = some b → b.converting = true →
    (b.codes.length < 7 →
      exec (.temperatureConversionEnd code) s =
        .next { s with
          sense := { s.sense with
            burst := some ⟨b.codes ++ [code], decide (s.round.phase ≠ .chips) && !s.sense.lightConverting⟩ } }) ∧
    (b.codes.length = 7 → (∃ c ∈ b.codes ++ [code], c = 0 ∨ c = 4095) →
      exec (.temperatureConversionEnd code) s = .next { s with sense := { s.sense with burst := none } }) ∧
    (b.codes.length = 7 → (∀ c ∈ b.codes ++ [code], c ≠ 0 ∧ c ≠ 4095) →
      let sum := ((b.codes ++ [code]).map
        (fun c => max 0 (min 4095 ((c.toNat : Int) + s.memory.nv.trim)))).sum
      let t := sum * 1000 / 32768 - 200
      temperatureInRange t ∧
      exec (.temperatureConversionEnd code) s =
        .next { s with
          sense := { s.sense with burst := none }
          climate := { s.climate with
            reading := some t, readingHold := some (seconds 180),
            roster := if s.terminal then writeRoster s.station t s.climate.roster else s.climate.roster } })

/-! ### Probe scheduling -/

/-- PROBE_TIMER_EXPIRY in RESTING begins WANTING with a deadline of 60 s; there, and at RETRY_DELAY_EXPIRY in wait DELAY, the
queueing decision is made: a request where the view admits one, CLOSE-WAIT where it does not, and the time left in
listen-only while that runs; that delay expires outside listen-only (R51 to R54; the instant of slot 12 before GUARD_START by
log entry 38, a delay's expiry inside listen-only by log entry 3). -/
def Obligations.QueueingDecisionFollowsTheRoundView : Prop :=
  ∀ s : State,
    let admits := s.round.phase = .none ∨
      (s.round.phase = .opening ∧ (s.round.timer.slot < 12 ∨ s.round.timer.guardPassed = false) ∧
        s.round.probers.length < 6)
    let bars := s.round.phase = .chips ∨ s.round.phase = .settle ∨
      (s.round.phase = .opening ∧
        ((12 ≤ s.round.timer.slot ∧ s.round.timer.guardPassed = true) ∨ 6 ≤ s.round.probers.length))
    let wanting : Scheduler :=
      { s.sched with state := .wanting, probe := none, deadline := some (seconds 60), retry := none }
    (s.sched.state = .resting → s.sched.probe.isSome = true →
      (s.phase = .listenOnly →
        exec .probeTimerExpiry s =
          .next { s with sched := { wanting with wait := some .delay, retry := some (s.line.listenOnly.getD 0) } }) ∧
      (s.phase ≠ .listenOnly →
        (admits →
          exec .probeTimerExpiry s =
            .next (offer .callJoin { s with sched := { wanting with wait := some .queued } })) ∧
        (bars → exec .probeTimerExpiry s = .next { s with sched := { wanting with wait := some .closeWait } }))) ∧
    (s.phase = .listenOnly → exec .retryDelayExpiry s = .next s) ∧
    (s.sched.state = .wanting → s.sched.wait = some .delay → s.sched.retry.isSome = true → s.phase ≠ .listenOnly →
      (admits →
        exec .retryDelayExpiry s =
          .next (offer .callJoin { s with sched := { s.sched with wait := some .queued, retry := none } })) ∧
      (bars →
        exec .retryDelayExpiry s =
          .next { s with sched := { s.sched with wait := some .closeWait, retry := none } }))

/-- A STIR from a station held in the table, and a SURVEY from any station, enter or extend BRISK; on entry in RESTING a
length is drawn and taken where the running timer is longer. BRISK_TIMER_EXPIRY makes the mode NORMAL and keeps the probe
timer (R47 to R50, R78, R199). -/
def Obligations.StirAndSurveyEnterOrExtendBrisk : Prop :=
  (∀ (sender : Station) (x : Byte) (s : State), s.hears → sender ≠ 0 →
    let entered (d : Nat) : State :=
      match s.sched.mode, s.sched.state with
      | .brisk, _ =>
        { s.atNoticeEnd with sched := { s.sched with brisk := some (max (s.sched.brisk.getD 0) d) } }
      | .normal, .resting =>
        let fresh := seconds 20 + 160 * drawFrom (lfsrNext s.rng) 250
        { s.atNoticeEnd with
          rng := lfsrNext s.rng
          sched := { s.sched with
            mode := .brisk, brisk := some d
            probe := s.sched.probe.map (fun left => min left fresh) } }
      | .normal, _ => { s.atNoticeEnd with sched := { s.sched with mode := .brisk, brisk := some d } }
    exec (.stir sender x) s =
      .next (if ∃ e ∈ entriesOf s.table.slots, e.station = sender then entered (seconds 600) else s.atNoticeEnd) ∧
    exec (.survey sender x) s =
      .next (entered (seconds (max 600 (60 * (if x.toNat = 0 then 1 else if 60 < x.toNat then 60 else x.toNat)))))) ∧
  ∀ s : State, s.sched.brisk.isSome = true →
    exec .briskTimerExpiry s = .next { s with sched := { s.sched with mode := .normal, brisk := none } }

/-! ### Neighbour table -/

/-- The moves of a link for a pair value against the thresholds of its sensitivity class (R65, R66). -/
def Obligations.LinkMovesFollowThePairValue : Prop :=
  (thresholds 0 = (480, 300) ∧ thresholds 1 = (360, 220) ∧ thresholds 2 = (240, 150) ∧ thresholds 3 = (160, 100)) ∧
  ∀ (k p : Nat), k ≤ 3 →
    let j := (thresholds k).1
    let l := (thresholds k).2
    (∀ link, evaluateLink j l link none = (link, .nothing)) ∧
    (j ≤ p → evaluateLink j l .apart (some p) = (.rising, .nothing) ∧ evaluateLink j l .rising (some p) = (.linked, .up) ∧
      ∀ link, link.isLinked = true → evaluateLink j l link (some p) = (.linked, .nothing)) ∧
    (l ≤ p → p < j → ∀ link, evaluateLink j l link (some p) = (if link.isLinked then .linked else .apart, .nothing)) ∧
    (p < l → evaluateLink j l .linked (some p) = (.falling, .nothing) ∧
      evaluateLink j l .resumed (some p) = (.falling, .nothing) ∧
      evaluateLink j l .falling (some p) = (.apart, .fallen) ∧
      ∀ link, link.isLinked = false → evaluateLink j l link (some p) = (.apart, .nothing))

/-- A TALLY of a node: each item that names this node with an index is stored as the sender's told value, or admits it, in
notice order; other items and a tool's TALLY change nothing. With one item from a sender held: told takes the value, quiet 0,
and the link is evaluated while the sensor is OK. A stored seen value keeps the previous one, and a shift (farther from it
than the larger of 64 and a quarter of it) brings BRISK and, where the spacing timer is stopped after listen-only, the STIR 01
and its spacing of 60 s. A link up or down starts the link hold-off of 90 s once the start-up hold has ended, and runs the
derivation (R62 to R64, R66, R67, R74, R76, R77, R92, R187; the order of a shift's draws by log entry 35). -/
def Obligations.StoredValuesMoveTheirEntryAlone : Prop :=
  let linkEvent (x : State) : State := derive
    (if x.zone.hold.isSome then x else { x with memory := { x.memory with linkHoldOff := some (seconds 90) } })
  let evaluated (x : State) (e : Entry) (pair : Option Nat) : Link × LinkMove :=
    if x.table.sensor = .suspect then (e.link, .nothing)
    else evaluateLink (thresholds x.sensClass).1 (thresholds x.sensClass).2 e.link pair
  let handOn (move : LinkMove) (x : State) : State := if move = .nothing then x else linkEvent x
  (∀ (sender : Station) (items : List (Station × Half)) (s : State), s.hears → sender ≠ 0 → 1 ≤ items.length →
    items.length ≤ 6 →
    exec (.tally sender items) s =
      .next
        (if isTool sender = true then s.atNoticeEnd
        else items.foldl
          (fun x item =>
            if item.1 = s.station ∧ item.2.toNat ≤ 4095 then
              match x.table.slots.findIdx? (fun e => e.any (fun e => decide (e.station = sender))) with
              | some i => storeTold i item.2.toNat x
              | none => admission sender .told item.2.toNat x
            else x) s.atNoticeEnd)) ∧
  (∀ (i v : Nat) (e : Entry) (s : State), slotAt s.table.slots i = some e →
    let (link, move) := evaluated s e (e.seen.map (fun k => min k v))
    storeTold i v s =
      handOn move { s with
        table := { s.table with
          slots := s.table.slots.set i (some { e with told := some v, quiet := 0, link := link }) } }) ∧
  (∀ (i k : Nat) (e : Entry) (s : State), slotAt s.table.slots i = some e →
    let (link, move) := evaluated s e (e.told.map (fun v => min k v))
    let stored : State := { s with
      table := { s.table with
        slots := s.table.slots.set i (some { e with
          previousSeen := e.seen, seen := some k, quiet := 0, link := link }) } }
    let brisk := enterBrisk (seconds 600) stored
    storeSeen i k s =
      handOn move
        (if ∃ v ∈ e.seen, (v + max 64 (v / 4) < k) ∨ (k + max 64 (v / 4) < v) then
          if s.phase = .listenOnly ∨ s.table.stirSpacing.isSome = true then brisk
          else offer (.stir 1) { brisk with table := { brisk.table with stirSpacing := some (seconds 60) } }
        else stored)) ∧
  (∀ (sender : Station) (value : Half) (i : Nat) (e : Entry) (s : State), s.hears → s.TableSound →
    isNode sender = true → slotAt s.table.slots i = some e → e.station = sender → value.toNat ≤ 4095 →
    ∃ t, exec (.tally sender [(s.station, value)]) s = .next t ∧
      slotAt t.table.slots i = some { e with
        told := some value.toNat, quiet := 0
        link := if s.table.sensor = .suspect then e.link
          else (evaluateLink (thresholds s.sensClass).1 (thresholds s.sensClass).2 e.link
            (e.seen.map (fun k => min k value.toNat))).1 } ∧
      (∀ n, n ≠ i → slotAt t.table.slots n = slotAt s.table.slots n) ∧
      (t.table.suspect = s.table.suspect ∧ t.table.sensor = s.table.sensor ∧
        t.table.stirSpacing = s.table.stirSpacing ∧ t.table.agingMinute = s.table.agingMinute) ∧
      (t.phase = s.phase ∧ t.straps = s.straps ∧ t.round = s.round ∧ t.sense = s.sense ∧ t.sched = s.sched ∧
        t.light = s.light ∧ t.climate = s.climate ∧ t.zone.working = s.zone.working ∧
        t.election.roots = s.election.roots ∧ t.memory.nv = s.memory.nv)) ∧
  ∀ (i k : Nat) (e : Entry) (s : State), slotAt s.table.slots i = some e →
    let shift := ∃ v ∈ e.seen, (v + max 64 (v / 4) < k) ∨ (k + max 64 (v / 4) < v)
    let t := storeSeen i k s
    slotAt t.table.slots i = some { e with
      previousSeen := e.seen, seen := some k, quiet := 0
      link := if s.table.sensor = .suspect then e.link
        else (evaluateLink (thresholds s.sensClass).1 (thresholds s.sensClass).2 e.link
          (e.told.map (fun v => min k v))).1 } ∧
    (∀ n, n ≠ i → slotAt t.table.slots n = slotAt s.table.slots n) ∧
    (shift → t.sched.mode = .brisk ∧ t.sched.state = s.sched.state) ∧
    (shift → s.phase ≠ .listenOnly → t.table.stirSpacing.isSome = true) ∧
    (¬ shift → t.sched = s.sched ∧ t.table.stirSpacing = s.table.stirSpacing)

/-- A value of a station not held: admitted at 64 or more in the lowest empty slot; at a full table in place of the weakest
unlinked entry where that is weaker, and otherwise discarded and counted (R69 to R71). -/
def Obligations.AdmissionTakesAnEmptySlotOrTheWeakestEntry : Prop :=
  ∀ (station : Station) (half : MeasuredHalf) (v : Nat) (s : State), station ≠ s.station →
    let made : Entry := ⟨station, if half = .seen then some v else none, none,
      if half = .told then some v else none, .apart, none, 0⟩
    let weight (e : Entry) : Nat := max (e.seen.getD 0) (e.told.getD 0)
    let overflow := s.count (fun c => { c with tableOverflows := bump c.tableOverflows })
    (v < 64 → admission station half v s = s) ∧
    (64 ≤ v → ∀ i, slotAt s.table.slots i = none → i < s.table.slots.length →
      (∀ n, n < i → slotAt s.table.slots n ≠ none) →
      admission station half v s = s.withSlot i (some made)) ∧
    (64 ≤ v → (∀ n, n < s.table.slots.length → slotAt s.table.slots n ≠ none) →
      (∀ i e, slotAt s.table.slots i = some e → e.link.isLinked = false →
        (∀ n x, slotAt s.table.slots n = some x → x.link.isLinked = false →
          weight e < weight x ∨ (weight e = weight x ∧ i ≤ n)) →
        admission station half v s = if weight e < v then s.withSlot i (some made) else overflow) ∧
      ((∀ e ∈ entriesOf s.table.slots, e.link.isLinked = true) → admission station half v s = overflow))

/-- AGING_MINUTE: in OK every quiet count is advanced and an entry reaching 15 removed, in slot order, a linked one with the
link hold-off started once the start-up hold has ended and a derivation run; in SUSPECT none changes; the timer is restarted
either way. STIR_SPACING_EXPIRY stops its timer (R67, R72, R74, R77, R92, R187). -/
def Obligations.AgingMinuteAdvancesAndRemoves : Prop :=
  ∀ s : State,
    (s.table.agingMinute.isSome = true → s.table.sensor = .ok →
      (∀ e ∈ entriesOf s.table.slots, e.quiet ≤ 14) →
      let linkEvent (x : State) : State := derive
        (if x.zone.hold.isSome then x else { x with memory := { x.memory with linkHoldOff := some (seconds 90) } })
      exec .agingMinute s =
        .next ((List.range 16).foldl
          (fun x i =>
            let without : State := { x with table := { x.table with slots := x.table.slots.set i none } }
            match slotAt x.table.slots i with
            | some e => if 15 ≤ e.quiet then (if e.link.isLinked then linkEvent without else without) else x
            | none => x)
          { s with
            table := { s.table with
              agingMinute := some (seconds 60)
              slots := s.table.slots.map (fun x => x.map (fun e => { e with quiet := e.quiet + 1 })) } })) ∧
    (s.table.agingMinute.isSome = true → s.table.slots.length = 16 →
      ∃ t, exec .agingMinute s = .next t ∧
        t.table.agingMinute = some (seconds 60) ∧
        (∀ i, slotAt t.table.slots i =
          if s.table.sensor = .suspect then slotAt s.table.slots i
          else (slotAt s.table.slots i).bind (fun e =>
            if 15 ≤ e.quiet + 1 then none else some { e with quiet := e.quiet + 1 })) ∧
        (t.table.suspect = s.table.suspect ∧ t.table.sensor = s.table.sensor ∧
          t.table.stirSpacing = s.table.stirSpacing) ∧
        ((∀ e ∈ entriesOf s.table.slots, e.link.isLinked = true → e.quiet < 14) →
          t.election = s.election ∧ t.zone = s.zone ∧ t.line = s.line ∧ t.memory = s.memory ∧ t.rng = s.rng) ∧
        t.election.roots = s.election.roots ∧ t.election.ownGeneration = s.election.ownGeneration ∧
        t.zone.working = s.zone.working ∧ t.memory.nv = s.memory.nv ∧
        (t.phase = s.phase ∧ t.straps = s.straps ∧ t.round = s.round ∧ t.sense = s.sense ∧ t.sched = s.sched ∧
          t.light = s.light ∧ t.climate = s.climate)) ∧
    (s.table.stirSpacing.isSome = true →
      exec .stirSpacingExpiry s = .next { s with table := { s.table with stirSpacing := none } })

/-! ### Zone election and the working zone -/

/-- R88. A claim is current when its root is held and its generation is the latest or the one before it, modulo 256. -/
def Obligations.ClaimIsCurrentWithinTwoGenerations : Prop :=
  ∀ (roots : List (Option RootEntry)) (c : Claim),
    (isCurrent roots c = true ↔ ∃ e, rootEntry roots c.root = some e ∧
      (c.generation = e.generation ∨ (c.generation.toNat + 1) % 256 = e.generation.toNat)) ∧
    ((∀ e ∈ entriesOf roots, e.root ≠ c.root) → isCurrent roots c = false)

/-- The candidates are the own one and one of each linked entry whose claim is present and current with hops 14 or fewer. The
derived claim is the best of them: no candidate is preferred to it by the four tests. A changed claim replaces the one held: a
changed root is handed to the Working Zone Unit and starts or stops the generation timer, and the announcement check offers a
CLAIM where the derived claim is not the announced one and the spacing timer is stopped (R90, R91, R93, R95, R98; the check
after a change of the parent alone by log entry 37). -/
def Obligations.DerivationTakesTheBestCandidate : Prop :=
  (∀ (s : State) (c : Candidate), c ∈ s.candidates ↔
    c = ⟨⟨s.station, 0, s.election.ownGeneration⟩, none, true⟩ ∨
    ∃ e ∈ entriesOf s.table.slots, ∃ claim, e.claim = some claim ∧ e.link.isLinked = true ∧
      isCurrent s.election.roots claim = true ∧ claim.hops ≤ 14 ∧
      c.claim = ⟨claim.root, claim.hops + 1, claim.generation⟩ ∧ c.parent = some e.station ∧
      (c.latest = true ↔ ∃ r, rootEntry s.election.roots claim.root = some r ∧ r.generation = claim.generation)) ∧
  (∀ a b : Candidate, a.beats b = true ↔
    a.claim.root < b.claim.root ∨ (a.claim.root = b.claim.root ∧
      (a.claim.hops < b.claim.hops ∨ (a.claim.hops = b.claim.hops ∧
        ((a.latest = true ∧ b.latest = false) ∨ (a.latest = b.latest ∧
          ∃ p q, a.parent = some p ∧ b.parent = some q ∧ p < q)))))) ∧
  (∀ s : State,
    let best := s.bestCandidate
    let held : State := { s with election := { s.election with derived := best.claim, parent := best.parent } }
    let changed := s.election.derived.root ≠ best.claim.root
    let handed : State := if changed then handRoot best.claim.root held else held
    let duty : State :=
      if changed ∧ (best.claim.root = s.station ∨ s.election.derived.root = s.station) then
        { handed with
          election := { handed.election with
            generationTimer := if best.claim.root = s.station then some (seconds 30) else none } }
      else handed
    derive s =
      if s.phase ≠ .running ∨ (best.claim = s.election.derived ∧ best.parent = s.election.parent) then s
      else if s.election.announced = some best.claim ∨ s.election.claimSpacing.isSome = true then duty
      else offer .claim duty) ∧
  ∀ s : State, s.phase = .running →
    (derive s).election.derived = s.bestCandidate.claim ∧ (derive s).election.parent = s.bestCandidate.parent ∧
    s.bestCandidate ∈ s.candidates ∧ (∀ c ∈ s.candidates, c.beats s.bestCandidate = false) ∧
    (∀ c ∈ s.candidates, s.bestCandidate.claim.root < c.claim.root ∨
      (s.bestCandidate.claim.root = c.claim.root ∧ s.bestCandidate.claim.hops ≤ c.claim.hops)) ∧
    s.bestCandidate.claim.root ≤ s.station ∧ s.bestCandidate.claim.hops ≤ 15 ∧
    (s.bestCandidate.claim.hops = 0 ↔ s.bestCandidate.claim.root = s.station)

/-- A CLAIM is stored in its sender's entry; one of hops 1 to 15 leaves the root list, one of hops 0 refreshes the entry of
its root, or inserts it in the lowest empty slot, or at a full list in place of the highest evictable root where that is
higher, and is otherwise refused. A linked entry's claim that changes, or a root list that changes by an insertion or a new
generation, runs one derivation after both (R81, R84, R85, R92). -/
def Obligations.ClaimIsStoredAndTakenIntoTheRootList : Prop :=
  (∀ (sender root : Station) (hops generation : Byte) (values : Option (Half × Byte)) (s : State),
    s.hears → isNode sender = true → hops.toNat ≤ 15 → (hops = 0 ↔ values.isSome = true) →
    (hops = 0 → root = sender) →
    let claim : Claim := ⟨root, hops.toNat, generation⟩
    let list := match values with
      | some (setpoint, setback) => s.rootsAfterClaim ⟨root, generation, setpoint.toInt, setback.toNat, 0⟩
      | none => (s.election.roots, false)
    let taken (slots : List (Option Entry)) (linkedChange : Bool) : State :=
      let both : State := { s.atNoticeEnd with
        table := { s.table with slots := slots }, election := { s.election with roots := list.1 } }
      if linkedChange = true ∨ list.2 = true then derive both else both
    (∀ i e, slotAt s.table.slots i = some e → e.station = sender →
      (∀ n x, n < i → slotAt s.table.slots n = some x → x.station ≠ sender) →
      exec (.claim sender root hops generation values) s =
        .next (taken (s.table.slots.set i (some { e with claim := some claim }))
          (e.link.isLinked && decide (e.claim ≠ some claim)))) ∧
    ((∀ e ∈ entriesOf s.table.slots, e.station ≠ sender) →
      exec (.claim sender root hops generation values) s = .next (taken s.table.slots false))) ∧
  (∀ (sender root : Station) (hops generation : Byte) (values : Option (Half × Byte)) (s : State),
    s.hears → isNode sender = true → hops.toNat ≤ 15 → (hops = 0 ↔ values.isSome = true) →
    (hops = 0 → root = sender) →
    ∃ t, exec (.claim sender root hops generation values) s = .next t ∧
      (∀ i e, slotAt s.table.slots i = some e → e.station = sender →
        (∀ n x, slotAt s.table.slots n = some x → x.station = sender → n = i) →
        slotAt t.table.slots i = some { e with claim := some ⟨root, hops.toNat, generation⟩ }) ∧
      (∀ i e, slotAt s.table.slots i = some e → e.station ≠ sender → slotAt t.table.slots i = some e) ∧
      (values = none → t.election.roots = s.election.roots) ∧
      (∀ setpoint setback, values = some (setpoint, setback) →
        t.election.roots =
          (s.rootsAfterClaim ⟨root, generation, setpoint.toInt, setback.toNat, 0⟩).1) ∧
      (t.phase = s.phase ∧ t.straps = s.straps ∧ t.round = s.round ∧ t.sense = s.sense ∧ t.sched = s.sched ∧
        t.light = s.light ∧ t.climate = s.climate ∧ t.zone.working = s.zone.working ∧
        t.election.ownGeneration = s.election.ownGeneration ∧ t.memory = s.memory)) ∧
  ∀ (s : State) (e : RootEntry), ((entriesOf s.election.roots).map (fun x => x.root)).Nodup →
    (∀ i x, slotAt s.election.roots i = some x → x.root = e.root →
      s.rootsAfterClaim e = (s.election.roots.set i (some e), decide (x.generation ≠ e.generation))) ∧
    ((∀ x ∈ entriesOf s.election.roots, x.root ≠ e.root) →
      (∀ i, slotAt s.election.roots i = none → i < s.election.roots.length →
        (∀ n, n < i → slotAt s.election.roots n ≠ none) →
        s.rootsAfterClaim e = (s.election.roots.set i (some e), true)) ∧
      ((∀ n, n < s.election.roots.length → slotAt s.election.roots n ≠ none) →
        (∀ i v, slotAt s.election.roots i = some v → v.root ≠ s.zone.working → v.root ≠ s.election.derived.root →
          (∀ x ∈ entriesOf s.election.roots, x.root ≠ s.zone.working → x.root ≠ s.election.derived.root →
            x.root ≤ v.root) →
          s.rootsAfterClaim e =
            if e.root < v.root then (s.election.roots.set i (some e), true) else (s.election.roots, false)) ∧
        ((∀ x ∈ entriesOf s.election.roots, x.root = s.zone.working ∨ x.root = s.election.derived.root) →
          s.rootsAfterClaim e = (s.election.roots, false))))

/-- AGE_SECOND: every age is advanced, an entry reaching 100 removed, in slot order with a derivation after each removal, and
the timer restarted (R86, R92). -/
def Obligations.AgeSecondAdvancesAndRemoves : Prop :=
  ∀ s : State, s.election.ageSecond.isSome = true → s.election.roots.length = 16 →
    exec .ageSecond s =
      .next ((List.range 16).foldl
        (fun x i =>
          match slotAt x.election.roots i with
          | some e =>
            if 100 ≤ e.age then derive { x with election := { x.election with roots := x.election.roots.set i none } }
            else x
          | none => x)
        { s with
          election := { s.election with
            ageSecond := some (seconds 1)
            roots := s.election.roots.map (fun x => x.map (fun e => { e with age := e.age + 1 })) } }) ∧
    ∃ t, exec .ageSecond s = .next t ∧
      t.election.ageSecond = some (seconds 1) ∧
      (∀ i, slotAt t.election.roots i = (slotAt s.election.roots i).bind (fun e =>
        if 100 ≤ e.age + 1 then none else some { e with age := e.age + 1 })) ∧
      t.election.ownGeneration = s.election.ownGeneration ∧ t.election.announced = s.election.announced ∧
      ((∀ e ∈ entriesOf s.election.roots, e.age < 99) →
        t.election.derived = s.election.derived ∧ t.election.parent = s.election.parent ∧
          t.election.generationTimer = s.election.generationTimer ∧
          t.election.claimSpacing = s.election.claimSpacing ∧ t.zone = s.zone ∧ t.line = s.line ∧ t.rng = s.rng) ∧
      (t.phase = s.phase ∧ t.straps = s.straps ∧ t.round = s.round ∧ t.sense = s.sense ∧ t.sched = s.sched ∧
        t.table = s.table ∧ t.light = s.light ∧ t.climate = s.climate ∧ t.zone.working = s.zone.working ∧
        t.memory = s.memory)

/-- GENERATION_TIMER_EXPIRY: the own generation rises by 1 modulo 256, the timer is started again with 30 s and a derivation
runs; a root without linked neighbours then carries the new generation, and a CLAIM is offered unless the spacing timer
holds it. CLAIM_SPACING_EXPIRY stops that timer and offers a CLAIM where the derived claim differs from the announced one
(R95, R98, R101). -/
def Obligations.GenerationAndSpacingExpiriesAnnounce : Prop :=
  ∀ s : State,
    (s.election.generationTimer.isSome = true →
      exec .generationTimerExpiry s =
        .next (derive { s with
          election := { s.election with
            ownGeneration := s.election.ownGeneration + 1, generationTimer := some (seconds 30) } }) ∧
      (s.phase = .running → s.election.derived = ⟨s.station, 0, s.election.ownGeneration⟩ → s.election.parent = none →
        (∀ e ∈ entriesOf s.table.slots, e.link.isLinked = false) →
        s.election.announced ≠ some ⟨s.station, 0, s.election.ownGeneration + 1⟩ →
        exec .generationTimerExpiry s =
          .next
            (let advanced : State := { s with
              election := { s.election with
                ownGeneration := s.election.ownGeneration + 1, generationTimer := some (seconds 30)
                derived := ⟨s.station, 0, s.election.ownGeneration + 1⟩ } }
            if s.election.claimSpacing = none then offer .claim advanced else advanced))) ∧
    (s.phase = .running → s.election.claimSpacing.isSome = true →
      exec .claimSpacingExpiry s =
        .next
          (let stopped : State := { s with election := { s.election with claimSpacing := none } }
          if s.election.announced = some s.election.derived then stopped else offer .claim stopped))

/-- SETTLE_TIMER_EXPIRY: the working root takes the derived root copy, a PRESENCE is offered while presence is held, the
roster of a terminal node is emptied, and Zone Memory takes a save request (R111, R112, R128, R154, R187). -/
def Obligations.SettleTimerExpiryChangesTheZone : Prop :=
  ∀ s : State, s.zone.settle.isSome = true →
    exec .settleTimerExpiry s =
      .next
        (let moved : State := { s with zone := { s.zone with working := s.zone.derivedCopy, settle := none } }
        let lit := if s.light.held then offer .presence moved else moved
        saveRequest { lit with
          climate := { s.climate with
            roster := if s.terminal then List.replicate 24 none else s.climate.roster } })

/-- START_UP_HOLD_END compares the derived root copy with the working root; a derived root handed on is stored, and after
the hold restarts or cancels the settle timer (R109, R110, R114). -/
def Obligations.StartUpHoldEndComparesTheDerivedRoot : Prop :=
  (∀ s : State, s.zone.hold.isSome = true →
    exec .startUpHoldEnd s =
      .next { s with
        zone := { s.zone with
          hold := none, settle := if s.zone.derivedCopy = s.zone.working then none else some (seconds 60) } }) ∧
  ∀ (root : Station) (s : State),
    handRoot root s =
      { s with
        zone := { s.zone with
          derivedCopy := root
          settle := if s.zone.hold.isSome then s.zone.settle
            else if root = s.zone.working then none else some (seconds 60) } }

/-! ### Zone lighting -/

/-- A zone presence occupies the zone with H; PRESENCE is one when it names the working root; HOLD_TIMER_EXPIRY in OCCUPIED
gives GRACE of 120 s at a third of the task level, GRACE_TIMER_EXPIRY in GRACE gives VACANT; PRESENCE_SPACING_EXPIRY stops
its timer. After a hold expiry whose instant brings a sample of the pin or the completion of a PRESENCE sent, no step of the part's
own moves the output level or the time before that event is taken (R126, R129, R131, R132). -/
def Obligations.OccupancyFollowsPresenceHoldAndGrace : Prop :=
  ∀ s : State,
    zonePresence s =
      { s with
        light := { s.light with
          occupancy := .occupied, holdTimer := some s.holdTime
          graceTimer := if s.light.occupancy = .occupied then s.light.graceTimer else none
          target := if s.light.occupancy = .occupied then s.light.target else s.light.task } } ∧
    (∀ sender zone, s.hears → sender ≠ 0 →
      exec (.presence sender zone) s =
        .next (if zone = s.zone.working then zonePresence s.atNoticeEnd else s.atNoticeEnd)) ∧
    (s.light.occupancy = .occupied → s.light.holdTimer.isSome = true →
      exec .holdTimerExpiry s =
        .next { s with
          light := { s.light with
            occupancy := .grace, holdTimer := none, graceTimer := some (seconds 120), target := s.light.task / 3 } }) ∧
    (s.light.occupancy = .grace → s.light.graceTimer.isSome = true →
      exec .graceTimerExpiry s =
        .next { s with light := { s.light with occupancy := .vacant, graceTimer := none, target := 0 } }) ∧
    (s.light.presenceSpacing.isSome = true →
      exec .presenceSpacingExpiry s = .next { s with light := { s.light with presenceSpacing := none } }) ∧
    (s.live = true → s.pending = [] → s.light.occupancy = .grace → s.light.graceTimer = some (seconds 120) →
      s.prescaler = 0 →
      s.light.sampling = some 0 ∨
        (s.line.queue ≠ [] ∧ (∃ units, s.line.level = .idle units ∧ 3 * byteTime ≤ units) ∧
          ∃ e a sender zone, s.line.contention = .fixed e a (.sending ⟨sender, .presence zone⟩ 0)) →
      ∃ t, step s = .next t ∧ t.light.output = s.light.output ∧ t.prescaler = 0)

/-- A local presence offers a PRESENCE after listen-only when the zone was not OCCUPIED or the spacing timer is stopped, and
is a zone presence. In the level modes a sample is active by the mode's level, and the 100th of a window is a local presence
at 30 active samples or more. In pulse mode a high sample after a low one outside the lockout is one and starts the lockout
with 1 s; RISING_EDGE is a low sample and a high one. In the disabled mode, and for an edge in a level mode, there is none.
LOCKOUT_EXPIRY clears presence held (R122 to R126; the level at the pin and the two samples of an edge by log entry 16). -/
def Obligations.LocalPresenceComesFromAWindowOrAnEdge : Prop :=
  ∀ s : State, s.live = true →
    let offered := if s.phase ≠ .listenOnly ∧ (s.light.occupancy ≠ .occupied ∨ s.light.presenceSpacing = none)
      then offer .presence s else s
    let present : Lighting := { s.light with
      held := true, occupancy := .occupied, holdTimer := some s.holdTime
      graceTimer := if s.light.occupancy = .occupied then s.light.graceTimer else none
      target := if s.light.occupancy = .occupied then s.light.target else s.light.task }
    s.occMode ≤ 3 ∧
    (∀ pinHigh, s.occMode ≤ 1 →
      let isActive := if s.occMode = 0 then pinHigh else !pinHigh
      let count := s.light.activeCount + isActive.toNat
      (s.light.windowCount < 99 →
        exec (.occupancySample pinHigh) s =
          .next { s with
            light := { s.light with
              pin := pinHigh, sampling := some (milliseconds 10)
              windowCount := s.light.windowCount + 1, activeCount := count } }) ∧
      (s.light.windowCount = 99 → count < 30 →
        exec (.occupancySample pinHigh) s =
          .next { s with
            light := { s.light with
              pin := pinHigh, sampling := some (milliseconds 10), held := false, windowCount := 0, activeCount := 0 } }) ∧
      (s.light.windowCount = 99 → 30 ≤ count →
        exec (.occupancySample pinHigh) s =
          .next { offered with
            light := { present with
              pin := pinHigh, sampling := some (milliseconds 10), windowCount := 0, activeCount := 0 } })) ∧
    (∀ pinHigh, s.occMode = 2 →
      exec (.occupancySample pinHigh) s =
        .next
          (if s.light.sampled = some false ∧ pinHigh = true ∧ s.light.lockout = none then
            { offered with
              light := { present with
                pin := true, sampled := some true, sampling := some 1, lockout := some (seconds 1) } }
          else { s with light := { s.light with pin := pinHigh, sampled := some pinHigh, sampling := some 1 } })) ∧
    (s.occMode = 2 →
      exec .risingEdge s =
        .next
          (if s.light.lockout = none then
            { offered with
              light := { present with
                pin := true, sampled := some true, sampling := some 1, lockout := some (seconds 1) } }
          else { s with light := { s.light with pin := true, sampled := some true, sampling := some 1 } })) ∧
    (s.occMode ≠ 2 → exec .risingEdge s = .next s) ∧
    (s.occMode = 3 → ∀ pinHigh, exec (.occupancySample pinHigh) s = .next { s with light := { s.light with pin := pinHigh } }) ∧
    (s.light.lockout.isSome = true →
      exec .lockoutExpiry s = .next { s with light := { s.light with lockout := none, held := false } })

/-- FADE_TICK: outside CHIPS the output level moves one step toward the target, up by 10 or down by 2, and a changed level
is loaded; in CHIPS nothing moves. PWM_RELOAD reloads R and makes the buffered compare active, COMPARE_MATCH ends the high
part of the period; a compare of R is held low, one of 1024 is never matched (R135, R136, R138, R140;
the counter stands at its instant by log entry 4). -/
def Obligations.FadeStepsAndTheOutputStageFollowsThem : Prop :=
  ∀ s : State,
    let level :=
      if s.light.output < s.light.target then min (s.light.output + 10) s.light.target
      else if s.light.target < s.light.output then max (s.light.output - 2) s.light.target
      else s.light.output
    (s.light.fadeTick.isSome = true →
      exec .fadeTick s =
        .next { s with
          light :=
            if s.round.phase = .chips ∨ level = s.light.output then { s.light with fadeTick := some (milliseconds 25) }
            else { s.light with
              fadeTick := some (milliseconds 25), output := level
              buffered := s.reload + level * (1024 - s.reload) / 1000 } }) ∧
    (s.live = true →
      exec .pwmReload s =
        .next { s with
          light := { s.light with
            counter := s.reload, active := s.light.buffered, drive := decide (s.reload < s.light.buffered) } } ∧
      (s.light.active < 1024 →
        exec .compareMatch s = .next { s with light := { s.light with counter := s.light.active, drive := false } }) ∧
      (1024 ≤ s.light.active → exec .compareMatch s = .next s))

/-- R139. The compare of a level, at the output level and at the chip levels alike; it lies within R..1024, rises with the
level, and is R at level 0 and 1024 at level 1000. -/
def Obligations.CompareOfALevelLiesWithinRAnd1024 : Prop :=
  (∀ r level, compareOf r level = r + level * (1024 - r) / 1000) ∧
  (∀ (level : Nat) (s : State),
    loadCompare level s = { s with light := { s.light with buffered := compareOf s.reload level } }) ∧
  ∀ r level, r = 24 ∨ r = 524 → level ≤ 1000 →
    r ≤ compareOf r level ∧ compareOf r level ≤ 1024 ∧
    (∀ lower, lower ≤ level → compareOf r lower ≤ compareOf r level) ∧
    compareOf r 0 = r ∧ compareOf r 1000 = 1024 ∧ (r = 24 → compareOf r level = 24 + level)

/-! ### Zone climate -/

/-- WARMTH at a terminal node: a node's temperature in range for the working root is written into the roster, any other is
disregarded. The write takes the station's own entry, else the lowest empty slot, else the oldest entry's slot, the lowest
of equal ages. ROSTER_SECOND advances every age and removes an entry reaching 180. WARMTH_TIMER_EXPIRY restarts its timer
and queues a WARMTH when a reading is present (R147, R150, R151, R153, R161). -/
def Obligations.WarmthIsSentTakenAndAged : Prop :=
  (∀ s : State, s.climate.warmthTimer.isSome = true →
    exec .warmthTimerExpiry s =
      .next
        (let restarted : State := { s with climate := { s.climate with warmthTimer := some (seconds 60) } }
        if s.climate.reading = none then restarted else offer .warmth restarted)) ∧
  (∀ (sender zone : Station) (temperature : Half) (s : State), s.hears → sender ≠ 0 →
    exec (.warmth sender zone temperature) s =
      .next
        (if s.terminal = true ∧ isTool sender = false ∧ (-200 ≤ temperature.toInt ∧ temperature.toInt ≤ 799) ∧
            zone = s.zone.working then
          { s.atNoticeEnd with
            climate := { s.climate with roster := writeRoster sender temperature.toInt s.climate.roster } }
        else s.atNoticeEnd)) ∧
  (∀ (station : Station) (temperature : Int) (roster : List (Option RosterEntry)),
    let made : RosterEntry := ⟨station, temperature, 0⟩
    (∀ i e, slotAt roster i = some e → e.station = station →
      (∀ n x, n < i → slotAt roster n = some x → x.station ≠ station) →
      writeRoster station temperature roster = roster.set i (some made)) ∧
    ((∀ e ∈ entriesOf roster, e.station ≠ station) →
      (∀ i, i < roster.length → slotAt roster i = none → (∀ n, n < i → slotAt roster n ≠ none) →
        writeRoster station temperature roster = roster.set i (some made)) ∧
      (∀ i e, slotAt roster i = some e → (∀ n, n < roster.length → slotAt roster n ≠ none) →
        (∀ n x, slotAt roster n = some x → x.age < e.age ∨ (x.age = e.age ∧ i ≤ n)) →
        writeRoster station temperature roster = roster.set i (some made)))) ∧
  ∀ s : State, s.climate.rosterSecond.isSome = true →
    ∃ roster, exec .rosterSecond s =
        .next { s with climate := { s.climate with rosterSecond := some (seconds 1), roster := roster } } ∧
      (s.terminal = false → roster = s.climate.roster) ∧
      (s.terminal = true → ∀ i, slotAt roster i = (slotAt s.climate.roster i).bind (fun e =>
        if 180 ≤ e.age + 1 then none else some { e with age := e.age + 1 }))

/-- CONTROL_STEP at a terminal node: an empty roster holds the damper; otherwise the mean becomes the last mean and the
damper moves toward the demand of its error by at most 24. The effective setpoint is the working root's, clamped, or the
local one, with the setback while VACANT (R155 to R157, R159). -/
def Obligations.ControlStepMovesTheDamperTowardTheDemand : Prop :=
  (∀ s : State, s.terminal = true → s.climate.controlTimer.isSome = true →
    (entriesOf s.climate.roster = [] →
      exec .controlStep s = .next { s with climate := { s.climate with controlTimer := some (seconds 60) } }) ∧
    (entriesOf s.climate.roster ≠ [] →
      let mean := (((entriesOf s.climate.roster).map (fun e : RosterEntry => e.temperature)).sum).tdiv
        (entriesOf s.climate.roster).length
      let demand := demandOf (mean - s.effectiveSetpoint)
      exec .controlStep s =
        .next { s with
          climate := { s.climate with
            controlTimer := some (seconds 60), lastMean := some mean
            damper :=
              if s.climate.damper < demand then min (s.climate.damper + 24) demand
              else max (s.climate.damper - 24) demand } })) ∧
  ∀ s : State, 150 ≤ s.climate.setpoint → s.climate.setpoint ≤ 300 → s.climate.setback ≤ 60 →
    (∀ e, rootEntry s.election.roots s.zone.working = some e →
      s.effectiveSetpoint = max 150 (min 300 e.setpoint) +
        if s.light.occupancy = .vacant then ((min 60 e.setback : Nat) : Int) else 0) ∧
    (rootEntry s.election.roots s.zone.working = none →
      s.effectiveSetpoint = s.climate.setpoint + if s.light.occupancy = .vacant then (s.climate.setback : Int) else 0) ∧
    150 ≤ s.effectiveSetpoint ∧ s.effectiveSetpoint ≤ 360

/-- R158. The demand of an error. -/
def Obligations.DemandFollowsTheError : Prop :=
  ∀ e : Int,
    38 ≤ demandOf e ∧ demandOf e ≤ 255 ∧
    (e ≤ 0 → demandOf e = 38) ∧
    (1 ≤ e → e ≤ 19 → (demandOf e : Int) = 38 + e * 217 / 20) ∧
    (20 ≤ e → demandOf e = 255) ∧
    (0 ≤ e → e ≤ 19 → demandOf (e + 1) = demandOf e + 10 ∨ demandOf (e + 1) = demandOf e + 11)

/-! ### The ceiling line -/

/-- Before listen-only the queue takes no request, in listen-only an ANSWER alone, and after it every kind. A request it takes: a
CLAIM, PRESENCE or WARMTH replaces its pending one unseen, or is held as the
follow-on of its notice being sent; any other enters a queue of fewer than 8 at its rank, behind a fixed head, and is fixed
as head where none is and the line has been idle for 4 byte times (R169, R170, R172, R180; a CALL/JOIN by log
entry 27). -/
def Obligations.OfferReplacesFollowsOrEnters : Prop :=
  (∀ (r : Request) (s : State), s.phase ≠ .running → (s.phase = .listenOnly → ∀ page content, r ≠ .answer page content) →
    offer r s = s) ∧
  ∀ (r : Request) (s : State),
    s.phase = .running ∨ (s.phase = .listenOnly ∧ ∃ page content, r = .answer page content) →
    (heldOnce r = true → s.line.holds r = true → s.line.sendingRequest ≠ some r ∨ r = .callJoin → offer r s = s) ∧
    (heldOnce r = true → r ≠ .callJoin → s.line.sendingRequest = some r →
      offer r s = { s with line := { s.line with followOn := true } }) ∧
    (heldOnce r = false ∨ s.line.holds r = false → s.line.queue.length < 8 →
      ∃ before after : List Queued, s.line.queue = before ++ after ∧
        (∀ q ∈ before.drop (if s.line.contention = .unfixed then 0 else 1), rank q.request ≤ rank r) ∧
        (s.line.contention ≠ .unfixed → s.line.queue ≠ [] → before ≠ []) ∧
        (∀ q ∈ after.head?, rank r < rank q.request) ∧
        (let entered : LineInterface :=
          { s.line with queue := before ++ ⟨r, s.line.entries⟩ :: after, entries := s.line.entries + 1 }
        offer r s =
          if s.line.contention = .unfixed ∧ s.line.idleFour = true then
            { s with
              rng := lfsrNext s.rng
              line := { entered with
                contention := .fixed 3 0 (.counting (drawFrom (lfsrNext s.rng) 7 * byteTime)) } }
          else { s with line := entered }))

/-- A request offered to a full queue: the one of higher rank number that entered last gives way, the fixed head excepted, or
the offer is refused; the refusal counter is advanced once either way (R171). -/
def Obligations.OfferToAFullQueueDisplacesOrIsRefused : Prop :=
  ∀ (r : Request) (s : State), s.LineSound →
    s.phase = .running ∨ (s.phase = .listenOnly ∧ ∃ page content, r = .answer page content) →
    s.line.queue.length = 8 →
    heldOnce r = false ∨ s.line.holds r = false →
    (offer r s).line.counters = { s.line.counters with queueRefusals := bump s.line.counters.queueRefusals } ∧
    (offer r s).line.queue.length = 8 ∧
    ((∀ q ∈ s.line.displaceable, rank q.request ≤ rank r) →
      offer r s =
        { s with
          line := { s.line with
            counters := { s.line.counters with queueRefusals := bump s.line.counters.queueRefusals } } }) ∧
    (∀ v ∈ s.line.displaceable, rank r < rank v.request →
      (∀ q ∈ s.line.displaceable, rank r < rank q.request → q = v ∨ q.entered < v.entered) →
      (offer r s).line.queue.Perm (⟨r, s.line.entries⟩ :: s.line.queue.erase v)) ∧
    (r = .callJoin → (offer r s).line.holds .callJoin = true)

/-- HEAD_FIXING: the first request is fixed as head with exponent 3, no attempt and a draw of 0..7 byte times; a head
already fixed stays. LINE_START_BIT makes the line busy and pauses a counting backoff; BACKOFF_RESUME lets a paused one go
on and draws the next one of a lost head with its exponent (R162, R172, R173, R176; how long the
line has been idle by log entry 13). -/
def Obligations.BackoffIsDrawnPausedAndResumed : Prop :=
  ∀ s : State, s.live = true →
    let quiet : State := { s with line := { s.line with level := .idle (4 * byteTime) } }
    (s.line.contention = .unfixed → s.line.queue ≠ [] →
      exec .headFixing s =
        .next { quiet with
          rng := lfsrNext s.rng
          line := { quiet.line with
            contention := .fixed 3 0 (.counting (drawFrom (lfsrNext s.rng) 7 * byteTime)) } }) ∧
    (s.line.sendingRequest = none → s.line.contention ≠ .unfixed ∨ s.line.queue = [] →
      exec .headFixing s = .next quiet) ∧
    (∀ e a units, s.line.contention = .fixed e a (.counting units) →
      exec .lineStartBit s =
        .next { s with line := { s.line with contention := .fixed e a (.paused units), level := .busy } }) ∧
    ((∀ e a units, s.line.contention ≠ .fixed e a (.counting units)) →
      exec .lineStartBit s = .next { s with line := { s.line with level := .busy } }) ∧
    (∀ e a units, s.line.contention = .fixed e a (.paused units) →
      exec .backoffResume s =
        .next { quiet with line := { quiet.line with contention := .fixed e a (.counting units) } }) ∧
    (∀ e a, s.line.contention = .fixed e a .lost →
      exec .backoffResume s =
        .next { quiet with
          rng := lfsrNext s.rng
          line := { quiet.line with
            contention := .fixed e a (.counting (drawFrom (lfsrNext s.rng) (2 ^ e - 1) * byteTime)) } })

/-- LINE_WIN sends the head, one attempt more: a fixed body as queued, CLAIM, PRESENCE, WARMTH and CALL/JOIN with the body
built from the state as it stands. A CALL/JOIN that the round view does not admit leaves the queue, the scheduler is told
unless this node is listed, and no counter is advanced; until GUARD_START is
taken the decision is that of slot 11 (R19, R20, R54, R99, R118, R147, R174; the line is
then busy, log entry 13). From line-win on this node drives the bits of its notice one after another, ten to a byte: dominant, the
eight data bits with the least significant first, each dominant for a 0, and recessive; after the last, and while it sends
nothing, it leaves the line recessive (R162). -/
def Obligations.LineWinSendsOrWithdrawsTheHead : Prop :=
  (∀ (s : State) (e a units entered : Nat) (r : Request) (rest : List Queued),
    s.line.contention = .fixed e a (.counting units) → s.line.queue = ⟨r, entered⟩ :: rest →
    (∀ body : Body,
      (match r with
        | .tally items => body = .tally items
        | .stir cause => body = .stir cause
        | .answer page content => body = .answer page content
        | .presence => body = .presence s.zone.working
        | .warmth => ∃ t ∈ s.climate.reading, body = .warmth s.zone.working (BitVec.ofInt 16 t)
        | .claim => body = .claim s.election.derived.root (BitVec.ofNat 8 s.election.derived.hops)
            s.election.derived.generation
            (if s.election.derived.hops = 0 then
              some (BitVec.ofInt 16 s.climate.setpoint, BitVec.ofNat 8 s.climate.setback) else none)
        | .callJoin => s.round.own = none ∧
            ((s.round.phase = .none ∧ body = .call (BitVec.ofNat 8 s.depth)) ∨
             (s.round.phase = .opening ∧ (s.round.timer.slot < 12 ∨ s.round.timer.guardPassed = false) ∧
               s.round.probers.length < 6 ∧
               body = .join (BitVec.ofNat 8 s.depth) (BitVec.ofNat 8 (s.round.probers.length + 1))))) →
      exec .lineWin s =
        .next { s with
          line := { s.line with
            contention := .fixed e (a + 1)
              (.sending ⟨s.station, body⟩ ((frameBytes ⟨s.station, body⟩).length * byteTime))
            followOn := false, level := .busy } }) ∧
    (r = .callJoin → s.round.phase ≠ .none →
      (s.round.own.isSome = true ∨ s.round.phase = .chips ∨ s.round.phase = .settle ∨
        (s.round.phase = .opening ∧
          ((12 ≤ s.round.timer.slot ∧ s.round.timer.guardPassed = true) ∨ 6 ≤ s.round.probers.length))) →
      exec .lineWin s =
        .next (fixHead { s with
          line := { s.line with queue := rest, contention := .unfixed, followOn := false }
          sched := if s.round.own = none ∧ s.sched.state = .wanting ∧ s.sched.wait = some .queued
            then { s.sched with wait := some .closeWait } else s.sched }))) ∧
  (∀ (s : State) (e a units : Nat) (n : Notice), s.line.contention = .fixed e a (.sending n units) →
    let sent := (frameBytes n).length * byteTime - units
    s.drives = match (frameBytes n)[sent / byteTime]? with
      | none => .recessive
      | some byte =>
        let bit := sent % byteTime / (byteTime / 10)
        if bit = 0 then .dominant
        else if bit = 9 then .recessive
        else if byte.getLsbD (bit - 1) = true then .recessive else .dominant) ∧
  ∀ s : State, (∀ e a n units, s.line.contention ≠ .fixed e a (.sending n units)) → s.drives = .recessive

/-- LOSS before the 16th attempt keeps the head with its exponent raised to at most 7 and the follow-on merged, or drops a
request its owner gave up; the 16th drops it, advances line drops, lets its follow-on into the freed slot, and tells the
scheduler of a CALL/JOIN (R54, R56, R148, R170, R175, R176, R179; the line is then busy, log entry 13). -/
def Obligations.LossRaisesTheExponentOrDropsTheHead : Prop :=
  ∀ (s : State) (e a units : Nat) (n : Notice) (q : Queued) (rest : List Queued),
    s.line.contention = .fixed e a (.sending n units) → s.line.queue = q :: rest →
    let dropped : LineInterface := { s.line with
      queue := rest, contention := .unfixed, followOn := false, level := .busy }
    let counted : LineInterface := { dropped with
      counters := { s.line.counters with lineDrops := bump s.line.counters.lineDrops } }
    (a < 16 → (q.request = .callJoin → s.sched.state = .wanting ∧ s.sched.wait = some .queued) →
      (q.request = .warmth → s.climate.reading.isSome = true) →
      exec .loss s =
        .next { s with
          line := { s.line with
            contention := .fixed (min 7 (e + 1)) a .lost, followOn := false, level := .busy } }) ∧
    (a < 16 → (q.request = .callJoin ∧ s.sched.wait ≠ some .queued ∨
        q.request = .warmth ∧ s.climate.reading = none) →
      exec .loss s = .next { s with line := dropped }) ∧
    (16 ≤ a → s.line.followOn = false → q.request ≠ .callJoin → exec .loss s = .next { s with line := counted }) ∧
    (16 ≤ a → s.line.followOn = false → q.request = .callJoin →
      exec .loss s =
        .next
          (if s.sched.state = .wanting ∧ s.sched.wait = some .queued then
            if s.round.phase = .none then
              { s with
                line := counted, rng := lfsrNext s.rng
                sched := { s.sched with wait := some .delay, retry := some (drawFrom (lfsrNext s.rng) 15 * 128) } }
            else { s with line := counted, sched := { s.sched with wait := some .closeWait } }
          else { s with line := counted })) ∧
    (16 ≤ a → s.line.followOn = true → q.request ≠ .callJoin →
      ∃ queue, queue.Perm (⟨q.request, s.line.entries⟩ :: rest) ∧
        exec .loss s = .next { s with line := { counted with queue := queue, entries := s.line.entries + 1 } })

/-- NOTICE_COMPLETION: the request leaves, a PRESENCE or WARMTH follow-on enters (a CLAIM's is discarded), the line has been
idle for 3 byte times; a TALLY, STIR, WARMTH or ANSWER reports nothing; a PRESENCE starts its spacing timer of 30 s and a
CLAIM its own of 1 s with the announced claim; PRESENCE, CALL, JOIN and CLAIM are looped back (R22, R100, R127, R170, R177,
R178; order by log entry 33). Where a start bit came after the check, the part's own clock makes no completion while the line
is busy: it waits for 3 byte times of idle (R162, R163), which NOTICE_COMPLETION or a broken notice judged at that idle brings
(log entries 13 and 41). -/
def Obligations.NoticeCompletionReportsAndLoopsBack : Prop :=
  (∀ (s : State) (e a : Nat) (n : Notice), s.live = true → s.line.contention = .fixed e a (.sending n 0) →
    (∃ t, exec .lineStartBit s = .next t ∧ t.line = { s.line with level := .busy } ∧
      ∀ k, .noticeCompletion ∉ (Nat.repeat crystalCycle k t).due) ∧
    (s.line.level = .busy → s.line.framer = .ready → s.line.queue ≠ [] → ∀ raw, judge raw = .counted →
      ∃ t, exec (.discardedNotice raw) s = .next t ∧ .noticeCompletion ∈ t.due)) ∧
  ∀ (s : State) (e a units : Nat) (body : Body) (q : Queued) (rest : List Queued),
    s.line.contention = .fixed e a (.sending ⟨s.station, body⟩ units) → s.line.queue = q :: rest →
    let left : State := { s with
      line := { s.line with
        queue := rest, contention := .unfixed, followOn := false, level := .idle (3 * byteTime) } }
    (s.line.followOn = false →
      ((∃ items, body = .tally items) ∨ (∃ cause, body = .stir cause) ∨ (∃ z t, body = .warmth z t) ∨
          (∃ page content, body = .answer page content) →
        exec .noticeCompletion s = .next left) ∧
      (∀ z, body = .presence z →
        exec .noticeCompletion s =
          .next
            (let spaced : State := { left with light := { s.light with presenceSpacing := some (seconds 30) } }
            if z = s.zone.working then zonePresence spaced else spaced)) ∧
      (∀ d, body = .call d → s.round.phase = .none →
        exec .noticeCompletion s =
          .next { left with
            round := { s.round with
              phase := .opening, probers := [⟨s.station, d.toNat, 1⟩], own := some 1, disordered := false,
              timer := ⟨true, 0, 0, 0, false, 0, 0⟩ }
            sched := if s.sched.state = .probing then s.sched
              else { s.sched with state := .probing, probe := none, wait := none, deadline := none, retry := none } }) ∧
      (∀ d p, body = .join d p → s.round.phase = .opening → p.toNat = s.round.probers.length + 1 →
        (∀ r ∈ s.round.probers, r.station ≠ s.station) →
        exec .noticeCompletion s =
          .next { left with
            round := { s.round with
              probers := s.round.probers ++ [⟨s.station, d.toNat, p.toNat⟩], own := some p.toNat }
            sched := if s.sched.state = .probing then s.sched
              else { s.sched with state := .probing, probe := none, wait := none, deadline := none, retry := none } })) ∧
    (s.line.followOn = true → q.request = .warmth → ∀ z t, body = .warmth z t →
      ∃ queue, queue.Perm (⟨.warmth, s.line.entries⟩ :: rest) ∧
        exec .noticeCompletion s =
          .next { left with line := { left.line with queue := queue, entries := s.line.entries + 1 } }) ∧
    (s.line.followOn = true → q.request = .presence → ∀ z, body = .presence z →
      ∃ queue, queue.Perm (⟨.presence, s.line.entries⟩ :: rest) ∧
        exec .noticeCompletion s =
          .next
            (let spaced : State := { left with
              line := { left.line with queue := queue, entries := s.line.entries + 1 }
              light := { s.light with presenceSpacing := some (seconds 30) } }
            if z = s.zone.working then zonePresence spaced else spaced)) ∧
    (q.request = .claim → ∀ root h g values, body = .claim root h g values →
      ∃ t, exec .noticeCompletion s = .next t ∧
        t.election.announced = some ⟨root, h.toNat, g⟩ ∧ t.election.claimSpacing = some (seconds 1) ∧
        t.line = left.line ∧ t.rng = s.rng ∧
        (∀ setpoint setback, values = some (setpoint, setback) →
          t.election.roots = (s.rootsAfterClaim ⟨root, g, setpoint.toInt, setback.toNat, 0⟩).1) ∧
        (t.phase = s.phase ∧ t.straps = s.straps ∧ t.round = s.round ∧ t.sense = s.sense ∧ t.sched = s.sched ∧
          t.light = s.light ∧ t.climate = s.climate ∧ t.zone.working = s.zone.working ∧ t.memory = s.memory))

/-- FRAMER_FIRST_IDLE lets the framer accept start bits; before it no notice is collected or counted (log entry 12), and none
is taken while this node sends; what is broken behind this node's own notice is counted (log entry 41). DISCARDED_NOTICE of
what fails the judgement: broken at steps 1 to 6 it is counted, at steps 7 and 8 it is not, read here from the bytes, the body
lengths and the ranges of each kind, and from the fields of each command. An ANSWER whole and in range is handed to no block
(R22, R163, R165 to R168, R200). -/
def Obligations.FramerTakesNoticesAndCountsBrokenOnes : Prop :=
  (∀ s : State,
    let counted : State := { s with
      line := { s.line with
        level := .idle (3 * byteTime)
        counters := { s.line.counters with badNotices := bump s.line.counters.badNotices } } }
    (s.live = true → s.line.framer = .awaitingIdle → s.line.sendingRequest = none →
      exec .framerFirstIdle s =
        .next { s with line := { s.line with framer := .ready, level := .idle (3 * byteTime) } }) ∧
    (s.line.framer ≠ .ready ∨ s.line.sendingRequest.isSome = true → ∀ raw sender page content depth,
      exec (.answer sender page content) s = .next s ∧ exec (.call sender depth) s = .next s ∧
      (s.line.framer ≠ .ready ∨ s.line.level ≠ .busy ∨ judge raw ≠ .counted ∨
          (∀ e a n, s.line.contention ≠ .fixed e a (.sending n 0)) →
        exec (.discardedNotice raw) s = .next s)) ∧
    (s.live = true → s.line.framer = .ready → s.line.queue ≠ [] → s.line.level = .busy →
      ∀ e a n raw, s.line.contention = .fixed e a (.sending n 0) → judge raw = .counted →
        exec (.discardedNotice raw) s = .next counted) ∧
    (s.hears → ∀ raw : Collected, raw.fails = true →
      exec (.discardedNotice raw) s = .next (if judge raw = .counted then counted else s.atNoticeEnd)) ∧
    (s.hears → ∀ sender page content, sender ≠ 0 → content.length ≤ 36 →
      exec (.answer sender page content) s = .next s.atNoticeEnd) ∧
    (s.hears → ∀ (d p h g x : Byte) (v : Half) (values : Option (Half × Byte)) (i j : Station)
        (items : List (Station × Half)) (content : List Byte),
      items.length ≤ 7 → content.length ≤ 39 →
      (∀ c ∈ [Instr.call 0 d, .join 0 d p, .tally 0 items, .stir 0 x, .survey 0 x, .claim 0 i h g values, .presence 0 i,
          .warmth 0 i v, .ask 0 i p, .answer 0 p content, .set 0 i x v, .forget 0 i],
        exec c s = .next counted) ∧
      (j ≠ 0 →
        (¬ depthAllowed d.toNat ∨ isTool j = true → exec (.call j d) s = .next s.atNoticeEnd) ∧
        (¬ depthAllowed d.toNat ∨ p.toNat < 2 ∨ 6 < p.toNat ∨ isTool j = true →
          exec (.join j d p) s = .next s.atNoticeEnd) ∧
        (items.length = 0 ∨ items.length = 7 → exec (.tally j items) s = .next s.atNoticeEnd) ∧
        (15 < h.toNat ∨ (h = 0 ∧ i ≠ j) ∨ (h = 0 ∧ values = none) ∨ (h ≠ 0 ∧ values ≠ none) ∨ isTool j = true →
          exec (.claim j i h g values) s = .next s.atNoticeEnd) ∧
        (37 ≤ content.length → exec (.answer j p content) s = .next s.atNoticeEnd) ∧
        (x.toNat < 1 ∨ 3 < x.toNat → exec (.set j i x v) s = .next s.atNoticeEnd)))) ∧
  (∀ raw : Collected, raw.fault = true ∨ raw.bytes.length < 8 ∨ 48 < raw.bytes.length ∨ raw.bytes.head? ≠ some 0xC3 →
    judge raw = .counted) ∧
  (∀ (kind a b c n : Byte) (rest : List Byte),
    40 < n.toNat ∨ rest.length ≠ n.toNat + 2 ∨
      rest.drop n.toNat ≠ halfBytes (crc16 (kind :: a :: b :: c :: n :: rest.take n.toNat)) →
    judge ⟨0xC3 :: kind :: a :: b :: c :: n :: rest, false⟩ = .counted) ∧
  ∀ (kind : Byte) (i : Station) (body : List Byte), body.length ≤ 40 →
    let covered := kind :: (stationBytes i ++ BitVec.ofNat 8 body.length :: body)
    let verdict := judge ⟨0xC3 :: (covered ++ halfBytes (crc16 covered)), false⟩
    (i = 0 → verdict = .counted) ∧
    (i ≠ 0 → verdict ≠ .counted ∧
      (kind ∉ [0x11, 0x12, 0x21, 0x31, 0x32, 0x41, 0x51, 0x52, 0x61, 0x62, 0x63, 0x64] → verdict = .uncounted) ∧
      (∀ x ∈ [(0x11, 1), (0x12, 2), (0x31, 1), (0x32, 1), (0x51, 3), (0x52, 5), (0x61, 4), (0x63, 6), (0x64, 3)],
        kind = x.1 → body.length ≠ x.2 → verdict = .uncounted) ∧
      (kind = 0x21 → (∀ k ∈ body.head?, k = 0 ∨ 6 < k.toNat ∨ body.length ≠ 1 + 5 * k.toNat) → verdict = .uncounted) ∧
      (kind = 0x41 → (body[3]? = some 0 ∧ body.length ≠ 8) ∨ (body[3]? ≠ some 0 ∧ body.length ≠ 5) ∨
        (∃ h ∈ body[3]?, 15 < h.toNat) ∨ (body[3]? = some 0 ∧ body.take 3 ≠ stationBytes i) ∨ isTool i = true →
        verdict = .uncounted) ∧
      (kind = 0x62 → body = [] ∨ 37 < body.length → verdict = .uncounted) ∧
      (kind = 0x11 ∨ kind = 0x12 → (∀ d ∈ body.head?, ¬ depthAllowed d.toNat) ∨ isTool i = true → verdict = .uncounted) ∧
      (kind = 0x12 → (∀ p ∈ body[1]?, p.toNat < 2 ∨ 6 < p.toNat) → verdict = .uncounted) ∧
      (kind = 0x63 → (∀ x ∈ body[3]?, x.toNat < 1 ∨ 3 < x.toNat) → verdict = .uncounted))

/-- The frame: a notice that passes its judgement is read back whole from its bytes, at most 48 of them, and no frame with
one of its check bytes changed passes (R164 to R167). -/
def Obligations.FrameOfAPassingNoticeIsReadBack : Prop :=
  ∀ n : Notice, judgeNotice n = .passes n →
    judge ⟨frameBytes n, false⟩ = .passes n ∧ (frameBytes n).length = (bodyBytes n.body).length + 8 ∧
    (frameBytes n).length ≤ 48 ∧
    ∀ hi lo : Byte, [hi, lo] ≠ halfBytes (crc16 (checkedBytes n)) →
      judge ⟨0xC3 :: (checkedBytes n ++ [hi, lo]), false⟩ = .counted

/-! ### Service notices and Zone Memory -/

/-- ASK addressed to this node offers an ANSWER with the page as it stands; the pages hold the fields of R197 at their bytes,
most significant byte first, 19, 32, 32, 16, 8 and 0 of them (a settle timer at 0 ticks reads 1 s, log entry 25).
SET addressed to this node: the item takes its clamped value, the target is formed again where the task level is new, and
Zone Memory takes a save request. Either is ignored when it names another station (R134, R182, R187, R196 to R198). -/
def Obligations.AskAndSetServeTheStationTheyName : Prop :=
  (∀ (sender target : Station) (page : Byte) (s : State), s.hears → sender ≠ 0 →
    exec (.ask sender target page) s =
      .next (if target = s.station then offer (.answer page (s.pageContent page.toNat)) s.atNoticeEnd else s.atNoticeEnd) ∧
    (s.pageContent page.toNat).length =
      (if page.toNat = 0 then 19 else if page.toNat ≤ 6 then 32 else if page.toNat = 7 then 16
       else if page.toNat = 8 then 8 else 0)) ∧
  (∀ s : State,
    let three (i : Station) : List Byte := [i.extractLsb' 16 8, i.extractLsb' 8 8, i.extractLsb' 0 8]
    let two (n : Nat) : List Byte := [BitVec.ofNat 8 (n / 256), BitVec.ofNat 8 n]
    let signed (v : Int) : List Byte := two (v % 65536).toNat
    s.pageContent 0 =
      three s.zone.working ++ three s.election.derived.root ++
      [BitVec.ofNat 8 s.election.derived.hops, s.election.derived.generation] ++
      (match s.election.parent with | some i => three i | none => [0, 0, 0]) ++
      [match s.zone.settle with | none => 0 | some left => BitVec.ofNat 8 (max 1 ((left + 15999) / 16000)),
       match s.sched.mode with | .normal => 0 | .brisk => 1,
       match s.sched.state with | .resting => 0 | .wanting => 1 | .probing => 2,
       match s.table.sensor with | .ok => 0 | .suspect => 1] ++
      (match s.sense.lastSelf with
        | some (.index k) => two k | some .noisy => [0xF0, 0x01] | some .clipped => [0xF0, 0x02] | none => [0xFF, 0xFF]) ++
      two s.straps.toNat ∧
    (∀ p, 1 ≤ p → p ≤ 4 → s.pageContent p =
      [0, 1, 2, 3].flatMap (fun i =>
        match slotAt s.table.slots (4 * (p - 1) + i) with
        | none => [0, 0, 0, 0xFF, 0xFF, 0xFF, 0xFF, 0]
        | some e => three e.station ++ (match e.seen with | some k => two k | none => [0xFF, 0xFF]) ++
          (match e.told with | some v => two v | none => [0xFF, 0xFF]) ++
          [match e.link with | .apart => 0 | .rising => 1 | .linked => 2 | .falling => 3 | .resumed => 4])) ∧
    (∀ p, 5 ≤ p → p ≤ 6 → s.pageContent p =
      [0, 1, 2, 3, 4, 5, 6, 7].flatMap (fun i =>
        match slotAt s.election.roots (8 * (p - 5) + i) with
        | none => [0, 0, 0, 0]
        | some e => three e.root ++ [e.generation])) ∧
    s.pageContent 7 =
      two s.line.counters.lineDrops ++ two s.line.counters.queueRefusals ++ two s.line.counters.badNotices ++
      two s.line.counters.tableOverflows ++ two s.line.counters.missedTurns ++ two s.line.counters.noisyRounds ++
      two s.line.counters.clippedRounds ++ two s.line.counters.disorderedRounds ∧
    s.pageContent 8 =
      (match s.climate.lastMean with | some v => signed v | none => [0x7F, 0xFF]) ++ signed s.effectiveSetpoint ++
      [BitVec.ofNat 8 s.climate.damper, BitVec.ofNat 8 (entriesOf s.climate.roster).length] ++
      (match s.climate.reading with | some v => signed v | none => [0x7F, 0xFF])) ∧
  ∀ (sender target : Station) (item : Byte) (value : Half) (s : State), s.hears → sender ≠ 0 →
    item = 1 ∨ item = 2 ∨ item = 3 →
    let level := (max 0 (min 1000 value.toInt)).toNat
    let target' := if level = s.light.task then s.light.target
      else match s.light.occupancy with | .vacant => 0 | .occupied => level | .grace => level / 3
    exec (.set sender target item value) s =
      .next
        (if target = s.station then
          saveRequest
            (if item = 1 then { s.atNoticeEnd with light := { s.light with task := level, target := target' } }
             else if item = 2 then
              { s.atNoticeEnd with climate := { s.climate with setpoint := max 150 (min 300 value.toInt) } }
             else { s.atNoticeEnd with climate := { s.climate with setback := (max 0 (min 60 value.toInt)).toNat } })
         else s.atNoticeEnd)

/-- A save request starts a save at once, or is pending, or merges. REST_TIMER_EXPIRY stops the timer and starts a pending
save of an idle engine; LINK_HOLD_OFF_EXPIRY is a save request (R187 to R189). -/
def Obligations.SaveRequestsStartWaitOrMerge : Prop :=
  ∀ s : State,
    (s.memory.pendingSave = true → saveRequest s = s) ∧
    (s.memory.pendingSave = false → s.memory.engine = .idle → s.memory.rest = none →
      saveRequest s = { s with
        memory := { s.memory with
          snapshot := some s.snapshotNow, pendingSave := false, linkHoldOff := none, engine := .saving 0 } }) ∧
    (s.memory.pendingSave = false → s.memory.engine ≠ .idle ∨ s.memory.rest.isSome = true →
      saveRequest s = { s with memory := { s.memory with pendingSave := true } }) ∧
    (s.memory.rest.isSome = true →
      exec .restTimerExpiry s =
        .next { s with
          memory :=
            if s.memory.pendingSave = true ∧ s.memory.engine = .idle then
              { s.memory with
                rest := none, snapshot := some s.snapshotNow, pendingSave := false, linkHoldOff := none
                engine := .saving 0 }
            else { s.memory with rest := none } }) ∧
    (s.memory.linkHoldOff.isSome = true →
      exec .linkHoldOffExpiry s =
        .next (saveRequest { s with memory := { s.memory with linkHoldOff := none } }))

/-- SAVE_COMPLETION writes the record, starts the rest timer and begins a waiting clear; CLEAR_COMPLETION erases the record
area, leaves the rest timer, and starts a pending save when the rest timer is stopped (R188, R190; the pages written whole at the
completion and the snapshot dropped there by log entry 26). -/
def Obligations.SaveAndClearCompletionsWriteThePages : Prop :=
  ∀ (s : State) (elapsed : Nat),
    (∀ snapshot, s.memory.engine = .saving elapsed → s.memory.snapshot = some snapshot →
      exec .saveCompletion s =
        .next { s with
          memory := { s.memory with
            nv := s.memory.nv.writeRecord snapshot, snapshot := none, pendingClear := false
            engine := if s.memory.pendingClear then .clearing 0 else .idle, rest := some (seconds 300) } }) ∧
    (s.memory.engine = .clearing elapsed →
      ∃ t, exec .clearCompletion s = .next t ∧
        t.memory.nv = s.memory.nv.clearRecord ∧ t.memory.rest = s.memory.rest ∧
        t.memory.nv.goodRecord = false ∧
        t.memory.engine = (if s.memory.pendingSave = true ∧ s.memory.rest = none then .saving 0 else .idle) ∧
        (t.memory.pendingSave = true ↔ s.memory.pendingSave = true ∧ s.memory.rest.isSome = true) ∧
        (∀ a, a < 32 ∨ 128 ≤ a → t.memory.nv.read a = s.memory.nv.read a) ∧
        { t with memory := s.memory } = s)

/-- FORGET addressed to this node: the table is emptied, the working root is this node's own with the hold at 90 s, BRISK runs
for at least 600 s, and the engine clears the record now or after its save, whichever order the blocks take it in (log entry
10); to another it is ignored (R82, R87, R116, R192, R199). Where the working root was another station this is a zone change:
the roster of a terminal node is emptied, the Lighting Unit stays as it stands, and a PRESENCE is offered while presence is
held; where it was this node's own, no PRESENCE is queued and the Climate Unit stays as it stands (R112, R116, R128, R154). -/
def Obligations.ForgetClearsTheTableTheZoneAndTheRecord : Prop :=
  ∀ (sender target : Station) (s : State), s.hears → sender ≠ 0 →
    (target ≠ s.station → exec (.forget sender target) s = .next s.atNoticeEnd) ∧
    (target = s.station → s.table.slots.length = 16 → ∃ t, exec (.forget sender target) s = .next t ∧
      t.table = { s.table with slots := List.replicate 16 none } ∧
      t.zone.working = s.station ∧ t.zone.settle = none ∧ t.zone.hold = some (seconds 90) ∧
      t.sched.mode = .brisk ∧ (∃ left ∈ t.sched.brisk, seconds 600 ≤ left) ∧ t.sched.state = s.sched.state ∧
      t.sched.wait = s.sched.wait ∧ t.sched.deadline = s.sched.deadline ∧ t.sched.retry = s.sched.retry ∧
      t.memory = { s.memory with
        pendingSave := false, linkHoldOff := none
        engine := if s.memory.engine = .idle then .clearing 0 else s.memory.engine
        pendingClear := s.memory.pendingClear || s.memory.engine.isSaving } ∧
      t.election.roots = s.election.roots ∧ t.election.ageSecond = s.election.ageSecond ∧
      t.election.ownGeneration = s.election.ownGeneration ∧
      t.election.announced = s.election.announced ∧ t.election.claimSpacing = s.election.claimSpacing ∧
      (s.phase = .running → (∃ e ∈ entriesOf s.table.slots, e.link.isLinked = true) →
        t.election.derived = ⟨s.station, 0, s.election.ownGeneration⟩) ∧
      t.climate = { s.climate with
        roster := if s.zone.working ≠ s.station ∧ s.terminal = true then List.replicate 24 none else s.climate.roster } ∧
      (let offered := s.zone.working ≠ s.station ∧ s.light.held = true
      ((∀ e ∈ entriesOf s.table.slots, e.link.isLinked = false) →
        t.line = (if offered then offer .presence s.atNoticeEnd else s.atNoticeEnd).line) ∧
      (offered → s.phase = .running →
        s.line.queue.length ≤ 6 ∨ (s.line.holds .presence = true ∧ s.line.queue.length ≤ 7) →
        t.line.holds .presence = true) ∧
      (¬ offered → t.line.holds .presence = true → s.line.holds .presence = true)) ∧
      (t.phase = s.phase ∧ t.straps = s.straps ∧ t.round = s.round ∧ t.sense = s.sense ∧ t.light = s.light))

/-- A record that a save has written is good and is restored as it was taken: working root, operating values, and the
linked stations in record order, those of one pair value in slot order; page 0 stays (R184, R185, R189, R190). -/
def Obligations.SavedRecordIsRestoredAsTaken : Prop :=
  ∀ s : State, s.memory.nv.wf = true → s.table.slots.length = 16 →
    -32768 ≤ s.climate.setpoint → s.climate.setpoint ≤ 32767 → s.climate.setback ≤ 255 → s.light.task ≤ 65535 →
    let m := s.memory.nv.writeRecord s.snapshotNow
    let linked := (entriesOf s.table.slots).filter (fun e => e.link.isLinked)
    m.goodRecord = true ∧ m.recordWorking = s.zone.working ∧ m.recordSetpoint = s.climate.setpoint ∧
    m.recordSetback = s.climate.setback ∧ m.recordTask = s.light.task ∧
    m.recordLinks = (recordOrder linked).map
      (fun e => (e.station, match e.pairValue with | some p => BitVec.ofNat 16 p | none => 0xFFFF)) ∧
    (recordOrder linked).Perm linked ∧
    (∀ p : Option Nat, (recordOrder linked).filter (fun e => decide (e.pairValue = p)) =
      linked.filter (fun e => decide (e.pairValue = p))) ∧
    (recordOrder linked).Pairwise (fun x y => ∀ q ∈ y.pairValue, ∃ p ∈ x.pairValue, q ≤ p) ∧
    ∀ a, a < 32 → m.read a = s.memory.nv.read a

/-! ### Rules over the whole part -/

/-- Every block is sound right after reset, with the identity page and the generator of log entries 6 and 8. -/
def Obligations.ResetStateIsSound : Prop := State.reset.Sound

/-- No step changes the identity page, every step keeps the canonical form of the pages, and from a sound state the save
engine with its snapshot and marks (R183, R186, R188). -/
def Obligations.EveryStepKeepsTheIdentityPageAndZoneMemory : Prop :=
  ∀ s t : State, step s = .next t →
    (∀ a, a < 32 → t.memory.nv.read a = s.memory.nv.read a) ∧ t.station = s.station ∧
    (s.memory.nv.wf = true → t.memory.nv.wf = true) ∧
    (s.Sound → t.MemorySound)

/-- From a sound state every step keeps the round view, the Sense Unit, the timers of the scheduler with its mode, state
and wait, and a generator that is never 0 (R1, R2, R30, R33, R35, R40, R44; the mark of GUARD_START by log entry 22, a probe
timer that runs from listen-only on by log entry 24, one conversion at a time by log entry 39). -/
def Obligations.EveryStepKeepsTheRoundViewAndTheSenseUnit : Prop :=
  ∀ s t : State, s.Sound → step s = .next t → t.RoundSound ∧ t.SenseSound ∧ t.SchedulerSound ∧ t.GeneratorRuns

/-- From a sound state every step keeps the Neighbour Table: one entry per station, none of this node, halves within 0..4095,
quiet within 0..14 (R58, R72). -/
def Obligations.EveryStepKeepsTheNeighbourTable : Prop :=
  ∀ s t : State, s.Sound → step s = .next t → t.TableSound

/-- From a sound state every step keeps the election and the working zone: hops 0 exactly for the own root, no root above
this node, one entry per root, the copy equal to the derived root (R83, R91, R95, R107, R111). -/
def Obligations.EveryStepKeepsTheElectionAndTheZone : Prop :=
  ∀ s t : State, s.Sound → step s = .next t → t.ElectionSound ∧ t.ZoneSound

/-- From a sound state every step keeps levels, targets and timers of the lamp and the values and roster of the climate
(R120, R142, R149, R159). -/
def Obligations.EveryStepKeepsTheLampAndTheClimate : Prop :=
  ∀ s t : State, s.Sound → step s = .next t → t.LightSound ∧ t.ClimateSound

/-- From a sound state every step keeps the transmit queue, the contention state and the counters (R169, R173, R182). -/
def Obligations.EveryStepKeepsTheLineInterface : Prop :=
  ∀ s t : State, s.Sound → step s = .next t → t.LineSound

/-- What one command alone may change: the working root, the straps, the damper, the own generation and the output level
(R95, R107, R136, R159, R194). -/
def Obligations.OnlyTheirOwnEventsChangeWhatTheZoneObeys : Prop :=
  ∀ (c : Instr) (s t : State), c.wellFormed = true → exec c s = .next t →
    ((∀ sender target, c ≠ .forget sender target) → c ≠ .settleTimerExpiry → c ≠ .reset → c ≠ .oscillatorWaitEnd →
      t.zone.working = s.zone.working) ∧
    (c ≠ .reset → (∀ pins, c ≠ .resetRelease pins) → t.straps = s.straps) ∧
    (c ≠ .reset → c ≠ .controlStep → t.climate.damper = s.climate.damper) ∧
    (c = .controlStep → t.climate.damper ≤ s.climate.damper + 24 ∧ s.climate.damper ≤ t.climate.damper + 24) ∧
    (c ≠ .reset → c ≠ .generationTimerExpiry → t.election.ownGeneration = s.election.ownGeneration) ∧
    (c ≠ .reset → c ≠ .fadeTick → c ≠ .startOfSettle → t.light.output = s.light.output) ∧
    (s.round.phase = .chips → t.round.phase = .chips → t.light.output = s.light.output)
end

