-- ==== Sys2Proof/Laws/State.lean ====
section
/-! SUPPORT. One lemma per field per update of the state, so that no later proof unfolds a record update. -/

namespace Sys2Proof.Machine

variable (s : State)

/-! ### `State.withRound` -/

@[simp] theorem State.withRound_phase (x : RoundController) : (s.withRound x).phase = s.phase := rfl
@[simp] theorem State.withRound_straps (x : RoundController) : (s.withRound x).straps = s.straps := rfl
@[simp] theorem State.withRound_prescaler (x : RoundController) : (s.withRound x).prescaler = s.prescaler := rfl
@[simp] theorem State.withRound_rng (x : RoundController) : (s.withRound x).rng = s.rng := rfl
@[simp] theorem State.withRound_round (x : RoundController) : (s.withRound x).round = x := rfl
@[simp] theorem State.withRound_sense (x : RoundController) : (s.withRound x).sense = s.sense := rfl
@[simp] theorem State.withRound_sched (x : RoundController) : (s.withRound x).sched = s.sched := rfl
@[simp] theorem State.withRound_table (x : RoundController) : (s.withRound x).table = s.table := rfl
@[simp] theorem State.withRound_election (x : RoundController) : (s.withRound x).election = s.election := rfl
@[simp] theorem State.withRound_zone (x : RoundController) : (s.withRound x).zone = s.zone := rfl
@[simp] theorem State.withRound_light (x : RoundController) : (s.withRound x).light = s.light := rfl
@[simp] theorem State.withRound_climate (x : RoundController) : (s.withRound x).climate = s.climate := rfl
@[simp] theorem State.withRound_line (x : RoundController) : (s.withRound x).line = s.line := rfl
@[simp] theorem State.withRound_memory (x : RoundController) : (s.withRound x).memory = s.memory := rfl
@[simp] theorem State.withRound_free (x : RoundController) : (s.withRound x).free = s.free := rfl
@[simp] theorem State.withRound_pending (x : RoundController) : (s.withRound x).pending = s.pending := rfl

/-! ### `State.withSense` -/

@[simp] theorem State.withSense_phase (x : SenseUnit) : (s.withSense x).phase = s.phase := rfl
@[simp] theorem State.withSense_straps (x : SenseUnit) : (s.withSense x).straps = s.straps := rfl
@[simp] theorem State.withSense_prescaler (x : SenseUnit) : (s.withSense x).prescaler = s.prescaler := rfl
@[simp] theorem State.withSense_rng (x : SenseUnit) : (s.withSense x).rng = s.rng := rfl
@[simp] theorem State.withSense_round (x : SenseUnit) : (s.withSense x).round = s.round := rfl
@[simp] theorem State.withSense_sense (x : SenseUnit) : (s.withSense x).sense = x := rfl
@[simp] theorem State.withSense_sched (x : SenseUnit) : (s.withSense x).sched = s.sched := rfl
@[simp] theorem State.withSense_table (x : SenseUnit) : (s.withSense x).table = s.table := rfl
@[simp] theorem State.withSense_election (x : SenseUnit) : (s.withSense x).election = s.election := rfl
@[simp] theorem State.withSense_zone (x : SenseUnit) : (s.withSense x).zone = s.zone := rfl
@[simp] theorem State.withSense_light (x : SenseUnit) : (s.withSense x).light = s.light := rfl
@[simp] theorem State.withSense_climate (x : SenseUnit) : (s.withSense x).climate = s.climate := rfl
@[simp] theorem State.withSense_line (x : SenseUnit) : (s.withSense x).line = s.line := rfl
@[simp] theorem State.withSense_memory (x : SenseUnit) : (s.withSense x).memory = s.memory := rfl
@[simp] theorem State.withSense_free (x : SenseUnit) : (s.withSense x).free = s.free := rfl
@[simp] theorem State.withSense_pending (x : SenseUnit) : (s.withSense x).pending = s.pending := rfl

/-! ### `State.withSched` -/

@[simp] theorem State.withSched_phase (x : Scheduler) : (s.withSched x).phase = s.phase := rfl
@[simp] theorem State.withSched_straps (x : Scheduler) : (s.withSched x).straps = s.straps := rfl
@[simp] theorem State.withSched_prescaler (x : Scheduler) : (s.withSched x).prescaler = s.prescaler := rfl
@[simp] theorem State.withSched_rng (x : Scheduler) : (s.withSched x).rng = s.rng := rfl
@[simp] theorem State.withSched_round (x : Scheduler) : (s.withSched x).round = s.round := rfl
@[simp] theorem State.withSched_sense (x : Scheduler) : (s.withSched x).sense = s.sense := rfl
@[simp] theorem State.withSched_sched (x : Scheduler) : (s.withSched x).sched = x := rfl
@[simp] theorem State.withSched_table (x : Scheduler) : (s.withSched x).table = s.table := rfl
@[simp] theorem State.withSched_election (x : Scheduler) : (s.withSched x).election = s.election := rfl
@[simp] theorem State.withSched_zone (x : Scheduler) : (s.withSched x).zone = s.zone := rfl
@[simp] theorem State.withSched_light (x : Scheduler) : (s.withSched x).light = s.light := rfl
@[simp] theorem State.withSched_climate (x : Scheduler) : (s.withSched x).climate = s.climate := rfl
@[simp] theorem State.withSched_line (x : Scheduler) : (s.withSched x).line = s.line := rfl
@[simp] theorem State.withSched_memory (x : Scheduler) : (s.withSched x).memory = s.memory := rfl
@[simp] theorem State.withSched_free (x : Scheduler) : (s.withSched x).free = s.free := rfl
@[simp] theorem State.withSched_pending (x : Scheduler) : (s.withSched x).pending = s.pending := rfl

/-! ### `State.withTable` -/

@[simp] theorem State.withTable_phase (x : NeighbourTable) : (s.withTable x).phase = s.phase := rfl
@[simp] theorem State.withTable_straps (x : NeighbourTable) : (s.withTable x).straps = s.straps := rfl
@[simp] theorem State.withTable_prescaler (x : NeighbourTable) : (s.withTable x).prescaler = s.prescaler := rfl
@[simp] theorem State.withTable_rng (x : NeighbourTable) : (s.withTable x).rng = s.rng := rfl
@[simp] theorem State.withTable_round (x : NeighbourTable) : (s.withTable x).round = s.round := rfl
@[simp] theorem State.withTable_sense (x : NeighbourTable) : (s.withTable x).sense = s.sense := rfl
@[simp] theorem State.withTable_sched (x : NeighbourTable) : (s.withTable x).sched = s.sched := rfl
@[simp] theorem State.withTable_table (x : NeighbourTable) : (s.withTable x).table = x := rfl
@[simp] theorem State.withTable_election (x : NeighbourTable) : (s.withTable x).election = s.election := rfl
@[simp] theorem State.withTable_zone (x : NeighbourTable) : (s.withTable x).zone = s.zone := rfl
@[simp] theorem State.withTable_light (x : NeighbourTable) : (s.withTable x).light = s.light := rfl
@[simp] theorem State.withTable_climate (x : NeighbourTable) : (s.withTable x).climate = s.climate := rfl
@[simp] theorem State.withTable_line (x : NeighbourTable) : (s.withTable x).line = s.line := rfl
@[simp] theorem State.withTable_memory (x : NeighbourTable) : (s.withTable x).memory = s.memory := rfl
@[simp] theorem State.withTable_free (x : NeighbourTable) : (s.withTable x).free = s.free := rfl
@[simp] theorem State.withTable_pending (x : NeighbourTable) : (s.withTable x).pending = s.pending := rfl

/-! ### `State.withElection` -/

@[simp] theorem State.withElection_phase (x : Election) : (s.withElection x).phase = s.phase := rfl
@[simp] theorem State.withElection_straps (x : Election) : (s.withElection x).straps = s.straps := rfl
@[simp] theorem State.withElection_prescaler (x : Election) : (s.withElection x).prescaler = s.prescaler := rfl
@[simp] theorem State.withElection_rng (x : Election) : (s.withElection x).rng = s.rng := rfl
@[simp] theorem State.withElection_round (x : Election) : (s.withElection x).round = s.round := rfl
@[simp] theorem State.withElection_sense (x : Election) : (s.withElection x).sense = s.sense := rfl
@[simp] theorem State.withElection_sched (x : Election) : (s.withElection x).sched = s.sched := rfl
@[simp] theorem State.withElection_table (x : Election) : (s.withElection x).table = s.table := rfl
@[simp] theorem State.withElection_election (x : Election) : (s.withElection x).election = x := rfl
@[simp] theorem State.withElection_zone (x : Election) : (s.withElection x).zone = s.zone := rfl
@[simp] theorem State.withElection_light (x : Election) : (s.withElection x).light = s.light := rfl
@[simp] theorem State.withElection_climate (x : Election) : (s.withElection x).climate = s.climate := rfl
@[simp] theorem State.withElection_line (x : Election) : (s.withElection x).line = s.line := rfl
@[simp] theorem State.withElection_memory (x : Election) : (s.withElection x).memory = s.memory := rfl
@[simp] theorem State.withElection_free (x : Election) : (s.withElection x).free = s.free := rfl
@[simp] theorem State.withElection_pending (x : Election) : (s.withElection x).pending = s.pending := rfl

/-! ### `State.withZone` -/

@[simp] theorem State.withZone_phase (x : WorkingZone) : (s.withZone x).phase = s.phase := rfl
@[simp] theorem State.withZone_straps (x : WorkingZone) : (s.withZone x).straps = s.straps := rfl
@[simp] theorem State.withZone_prescaler (x : WorkingZone) : (s.withZone x).prescaler = s.prescaler := rfl
@[simp] theorem State.withZone_rng (x : WorkingZone) : (s.withZone x).rng = s.rng := rfl
@[simp] theorem State.withZone_round (x : WorkingZone) : (s.withZone x).round = s.round := rfl
@[simp] theorem State.withZone_sense (x : WorkingZone) : (s.withZone x).sense = s.sense := rfl
@[simp] theorem State.withZone_sched (x : WorkingZone) : (s.withZone x).sched = s.sched := rfl
@[simp] theorem State.withZone_table (x : WorkingZone) : (s.withZone x).table = s.table := rfl
@[simp] theorem State.withZone_election (x : WorkingZone) : (s.withZone x).election = s.election := rfl
@[simp] theorem State.withZone_zone (x : WorkingZone) : (s.withZone x).zone = x := rfl
@[simp] theorem State.withZone_light (x : WorkingZone) : (s.withZone x).light = s.light := rfl
@[simp] theorem State.withZone_climate (x : WorkingZone) : (s.withZone x).climate = s.climate := rfl
@[simp] theorem State.withZone_line (x : WorkingZone) : (s.withZone x).line = s.line := rfl
@[simp] theorem State.withZone_memory (x : WorkingZone) : (s.withZone x).memory = s.memory := rfl
@[simp] theorem State.withZone_free (x : WorkingZone) : (s.withZone x).free = s.free := rfl
@[simp] theorem State.withZone_pending (x : WorkingZone) : (s.withZone x).pending = s.pending := rfl

/-! ### `State.withLight` -/

@[simp] theorem State.withLight_phase (x : Lighting) : (s.withLight x).phase = s.phase := rfl
@[simp] theorem State.withLight_straps (x : Lighting) : (s.withLight x).straps = s.straps := rfl
@[simp] theorem State.withLight_prescaler (x : Lighting) : (s.withLight x).prescaler = s.prescaler := rfl
@[simp] theorem State.withLight_rng (x : Lighting) : (s.withLight x).rng = s.rng := rfl
@[simp] theorem State.withLight_round (x : Lighting) : (s.withLight x).round = s.round := rfl
@[simp] theorem State.withLight_sense (x : Lighting) : (s.withLight x).sense = s.sense := rfl
@[simp] theorem State.withLight_sched (x : Lighting) : (s.withLight x).sched = s.sched := rfl
@[simp] theorem State.withLight_table (x : Lighting) : (s.withLight x).table = s.table := rfl
@[simp] theorem State.withLight_election (x : Lighting) : (s.withLight x).election = s.election := rfl
@[simp] theorem State.withLight_zone (x : Lighting) : (s.withLight x).zone = s.zone := rfl
@[simp] theorem State.withLight_light (x : Lighting) : (s.withLight x).light = x := rfl
@[simp] theorem State.withLight_climate (x : Lighting) : (s.withLight x).climate = s.climate := rfl
@[simp] theorem State.withLight_line (x : Lighting) : (s.withLight x).line = s.line := rfl
@[simp] theorem State.withLight_memory (x : Lighting) : (s.withLight x).memory = s.memory := rfl
@[simp] theorem State.withLight_free (x : Lighting) : (s.withLight x).free = s.free := rfl
@[simp] theorem State.withLight_pending (x : Lighting) : (s.withLight x).pending = s.pending := rfl

/-! ### `State.withClimate` -/

@[simp] theorem State.withClimate_phase (x : Climate) : (s.withClimate x).phase = s.phase := rfl
@[simp] theorem State.withClimate_straps (x : Climate) : (s.withClimate x).straps = s.straps := rfl
@[simp] theorem State.withClimate_prescaler (x : Climate) : (s.withClimate x).prescaler = s.prescaler := rfl
@[simp] theorem State.withClimate_rng (x : Climate) : (s.withClimate x).rng = s.rng := rfl
@[simp] theorem State.withClimate_round (x : Climate) : (s.withClimate x).round = s.round := rfl
@[simp] theorem State.withClimate_sense (x : Climate) : (s.withClimate x).sense = s.sense := rfl
@[simp] theorem State.withClimate_sched (x : Climate) : (s.withClimate x).sched = s.sched := rfl
@[simp] theorem State.withClimate_table (x : Climate) : (s.withClimate x).table = s.table := rfl
@[simp] theorem State.withClimate_election (x : Climate) : (s.withClimate x).election = s.election := rfl
@[simp] theorem State.withClimate_zone (x : Climate) : (s.withClimate x).zone = s.zone := rfl
@[simp] theorem State.withClimate_light (x : Climate) : (s.withClimate x).light = s.light := rfl
@[simp] theorem State.withClimate_climate (x : Climate) : (s.withClimate x).climate = x := rfl
@[simp] theorem State.withClimate_line (x : Climate) : (s.withClimate x).line = s.line := rfl
@[simp] theorem State.withClimate_memory (x : Climate) : (s.withClimate x).memory = s.memory := rfl
@[simp] theorem State.withClimate_free (x : Climate) : (s.withClimate x).free = s.free := rfl
@[simp] theorem State.withClimate_pending (x : Climate) : (s.withClimate x).pending = s.pending := rfl

/-! ### `State.withLine` -/

@[simp] theorem State.withLine_phase (x : LineInterface) : (s.withLine x).phase = s.phase := rfl
@[simp] theorem State.withLine_straps (x : LineInterface) : (s.withLine x).straps = s.straps := rfl
@[simp] theorem State.withLine_prescaler (x : LineInterface) : (s.withLine x).prescaler = s.prescaler := rfl
@[simp] theorem State.withLine_rng (x : LineInterface) : (s.withLine x).rng = s.rng := rfl
@[simp] theorem State.withLine_round (x : LineInterface) : (s.withLine x).round = s.round := rfl
@[simp] theorem State.withLine_sense (x : LineInterface) : (s.withLine x).sense = s.sense := rfl
@[simp] theorem State.withLine_sched (x : LineInterface) : (s.withLine x).sched = s.sched := rfl
@[simp] theorem State.withLine_table (x : LineInterface) : (s.withLine x).table = s.table := rfl
@[simp] theorem State.withLine_election (x : LineInterface) : (s.withLine x).election = s.election := rfl
@[simp] theorem State.withLine_zone (x : LineInterface) : (s.withLine x).zone = s.zone := rfl
@[simp] theorem State.withLine_light (x : LineInterface) : (s.withLine x).light = s.light := rfl
@[simp] theorem State.withLine_climate (x : LineInterface) : (s.withLine x).climate = s.climate := rfl
@[simp] theorem State.withLine_line (x : LineInterface) : (s.withLine x).line = x := rfl
@[simp] theorem State.withLine_memory (x : LineInterface) : (s.withLine x).memory = s.memory := rfl
@[simp] theorem State.withLine_free (x : LineInterface) : (s.withLine x).free = s.free := rfl
@[simp] theorem State.withLine_pending (x : LineInterface) : (s.withLine x).pending = s.pending := rfl

/-! ### `State.withMemory` -/

@[simp] theorem State.withMemory_phase (x : ZoneMemory) : (s.withMemory x).phase = s.phase := rfl
@[simp] theorem State.withMemory_straps (x : ZoneMemory) : (s.withMemory x).straps = s.straps := rfl
@[simp] theorem State.withMemory_prescaler (x : ZoneMemory) : (s.withMemory x).prescaler = s.prescaler := rfl
@[simp] theorem State.withMemory_rng (x : ZoneMemory) : (s.withMemory x).rng = s.rng := rfl
@[simp] theorem State.withMemory_round (x : ZoneMemory) : (s.withMemory x).round = s.round := rfl
@[simp] theorem State.withMemory_sense (x : ZoneMemory) : (s.withMemory x).sense = s.sense := rfl
@[simp] theorem State.withMemory_sched (x : ZoneMemory) : (s.withMemory x).sched = s.sched := rfl
@[simp] theorem State.withMemory_table (x : ZoneMemory) : (s.withMemory x).table = s.table := rfl
@[simp] theorem State.withMemory_election (x : ZoneMemory) : (s.withMemory x).election = s.election := rfl
@[simp] theorem State.withMemory_zone (x : ZoneMemory) : (s.withMemory x).zone = s.zone := rfl
@[simp] theorem State.withMemory_light (x : ZoneMemory) : (s.withMemory x).light = s.light := rfl
@[simp] theorem State.withMemory_climate (x : ZoneMemory) : (s.withMemory x).climate = s.climate := rfl
@[simp] theorem State.withMemory_line (x : ZoneMemory) : (s.withMemory x).line = s.line := rfl
@[simp] theorem State.withMemory_memory (x : ZoneMemory) : (s.withMemory x).memory = x := rfl
@[simp] theorem State.withMemory_free (x : ZoneMemory) : (s.withMemory x).free = s.free := rfl
@[simp] theorem State.withMemory_pending (x : ZoneMemory) : (s.withMemory x).pending = s.pending := rfl

/-! ### `State.afterDraw` -/

@[simp] theorem State.afterDraw_rng : s.afterDraw.rng = lfsrNext s.rng := rfl
@[simp] theorem State.afterDraw_phase : s.afterDraw.phase = s.phase := rfl
@[simp] theorem State.afterDraw_straps : s.afterDraw.straps = s.straps := rfl
@[simp] theorem State.afterDraw_prescaler : s.afterDraw.prescaler = s.prescaler := rfl
@[simp] theorem State.afterDraw_round : s.afterDraw.round = s.round := rfl
@[simp] theorem State.afterDraw_sense : s.afterDraw.sense = s.sense := rfl
@[simp] theorem State.afterDraw_sched : s.afterDraw.sched = s.sched := rfl
@[simp] theorem State.afterDraw_table : s.afterDraw.table = s.table := rfl
@[simp] theorem State.afterDraw_election : s.afterDraw.election = s.election := rfl
@[simp] theorem State.afterDraw_zone : s.afterDraw.zone = s.zone := rfl
@[simp] theorem State.afterDraw_light : s.afterDraw.light = s.light := rfl
@[simp] theorem State.afterDraw_climate : s.afterDraw.climate = s.climate := rfl
@[simp] theorem State.afterDraw_line : s.afterDraw.line = s.line := rfl
@[simp] theorem State.afterDraw_memory : s.afterDraw.memory = s.memory := rfl
@[simp] theorem State.afterDraw_free : s.afterDraw.free = s.free := rfl
@[simp] theorem State.afterDraw_pending : s.afterDraw.pending = s.pending := rfl

/-! ### `State.count` -/

@[simp] theorem State.count_line (f : Counters → Counters) :
    (s.count f).line = { s.line with counters := f s.line.counters } := rfl
@[simp] theorem State.count_phase (f : Counters → Counters) : (s.count f).phase = s.phase := rfl
@[simp] theorem State.count_straps (f : Counters → Counters) : (s.count f).straps = s.straps := rfl
@[simp] theorem State.count_prescaler (f : Counters → Counters) : (s.count f).prescaler = s.prescaler := rfl
@[simp] theorem State.count_rng (f : Counters → Counters) : (s.count f).rng = s.rng := rfl
@[simp] theorem State.count_round (f : Counters → Counters) : (s.count f).round = s.round := rfl
@[simp] theorem State.count_sense (f : Counters → Counters) : (s.count f).sense = s.sense := rfl
@[simp] theorem State.count_sched (f : Counters → Counters) : (s.count f).sched = s.sched := rfl
@[simp] theorem State.count_table (f : Counters → Counters) : (s.count f).table = s.table := rfl
@[simp] theorem State.count_election (f : Counters → Counters) : (s.count f).election = s.election := rfl
@[simp] theorem State.count_zone (f : Counters → Counters) : (s.count f).zone = s.zone := rfl
@[simp] theorem State.count_light (f : Counters → Counters) : (s.count f).light = s.light := rfl
@[simp] theorem State.count_climate (f : Counters → Counters) : (s.count f).climate = s.climate := rfl
@[simp] theorem State.count_memory (f : Counters → Counters) : (s.count f).memory = s.memory := rfl
@[simp] theorem State.count_free (f : Counters → Counters) : (s.count f).free = s.free := rfl
@[simp] theorem State.count_pending (f : Counters → Counters) : (s.count f).pending = s.pending := rfl

/-! ### `State.withSlot` -/

@[simp] theorem State.withSlot_table (i : Nat) (e : Option Entry) :
    (s.withSlot i e).table = { s.table with slots := s.table.slots.set i e } := rfl
@[simp] theorem State.withSlot_phase (i : Nat) (e : Option Entry) : (s.withSlot i e).phase = s.phase := rfl
@[simp] theorem State.withSlot_straps (i : Nat) (e : Option Entry) : (s.withSlot i e).straps = s.straps := rfl
@[simp] theorem State.withSlot_prescaler (i : Nat) (e : Option Entry) : (s.withSlot i e).prescaler = s.prescaler := rfl
@[simp] theorem State.withSlot_rng (i : Nat) (e : Option Entry) : (s.withSlot i e).rng = s.rng := rfl
@[simp] theorem State.withSlot_round (i : Nat) (e : Option Entry) : (s.withSlot i e).round = s.round := rfl
@[simp] theorem State.withSlot_sense (i : Nat) (e : Option Entry) : (s.withSlot i e).sense = s.sense := rfl
@[simp] theorem State.withSlot_sched (i : Nat) (e : Option Entry) : (s.withSlot i e).sched = s.sched := rfl
@[simp] theorem State.withSlot_election (i : Nat) (e : Option Entry) : (s.withSlot i e).election = s.election := rfl
@[simp] theorem State.withSlot_zone (i : Nat) (e : Option Entry) : (s.withSlot i e).zone = s.zone := rfl
@[simp] theorem State.withSlot_light (i : Nat) (e : Option Entry) : (s.withSlot i e).light = s.light := rfl
@[simp] theorem State.withSlot_climate (i : Nat) (e : Option Entry) : (s.withSlot i e).climate = s.climate := rfl
@[simp] theorem State.withSlot_line (i : Nat) (e : Option Entry) : (s.withSlot i e).line = s.line := rfl
@[simp] theorem State.withSlot_memory (i : Nat) (e : Option Entry) : (s.withSlot i e).memory = s.memory := rfl
@[simp] theorem State.withSlot_free (i : Nat) (e : Option Entry) : (s.withSlot i e).free = s.free := rfl
@[simp] theorem State.withSlot_pending (i : Nat) (e : Option Entry) : (s.withSlot i e).pending = s.pending := rfl

/-! ### Views of the state that an update of another block leaves -/

@[simp] theorem State.withRound_station (x : RoundController) : (s.withRound x).station = s.station := rfl
@[simp] theorem State.withRound_terminal (x : RoundController) : (s.withRound x).terminal = s.terminal := rfl
@[simp] theorem State.withRound_sensClass (x : RoundController) : (s.withRound x).sensClass = s.sensClass := rfl
@[simp] theorem State.withRound_depth (x : RoundController) : (s.withRound x).depth = s.depth := rfl
@[simp] theorem State.withRound_gain (x : RoundController) : (s.withRound x).gain = s.gain := rfl
@[simp] theorem State.withRound_reload (x : RoundController) : (s.withRound x).reload = s.reload := rfl
@[simp] theorem State.withRound_occMode (x : RoundController) : (s.withRound x).occMode = s.occMode := rfl
@[simp] theorem State.withRound_holdTime (x : RoundController) : (s.withRound x).holdTime = s.holdTime := rfl
@[simp] theorem State.withRound_inListenOnly (x : RoundController) : (s.withRound x).inListenOnly = s.inListenOnly := rfl
@[simp] theorem State.withRound_live (x : RoundController) : (s.withRound x).live = s.live := rfl
@[simp] theorem State.withRound_stageRuns (x : RoundController) : (s.withRound x).stageRuns = s.stageRuns := rfl
@[simp] theorem State.withSense_station (x : SenseUnit) : (s.withSense x).station = s.station := rfl
@[simp] theorem State.withSense_terminal (x : SenseUnit) : (s.withSense x).terminal = s.terminal := rfl
@[simp] theorem State.withSense_sensClass (x : SenseUnit) : (s.withSense x).sensClass = s.sensClass := rfl
@[simp] theorem State.withSense_depth (x : SenseUnit) : (s.withSense x).depth = s.depth := rfl
@[simp] theorem State.withSense_gain (x : SenseUnit) : (s.withSense x).gain = s.gain := rfl
@[simp] theorem State.withSense_reload (x : SenseUnit) : (s.withSense x).reload = s.reload := rfl
@[simp] theorem State.withSense_occMode (x : SenseUnit) : (s.withSense x).occMode = s.occMode := rfl
@[simp] theorem State.withSense_holdTime (x : SenseUnit) : (s.withSense x).holdTime = s.holdTime := rfl
@[simp] theorem State.withSense_inListenOnly (x : SenseUnit) : (s.withSense x).inListenOnly = s.inListenOnly := rfl
@[simp] theorem State.withSense_live (x : SenseUnit) : (s.withSense x).live = s.live := rfl
@[simp] theorem State.withSense_stageRuns (x : SenseUnit) : (s.withSense x).stageRuns = s.stageRuns := rfl
@[simp] theorem State.withSched_station (x : Scheduler) : (s.withSched x).station = s.station := rfl
@[simp] theorem State.withSched_terminal (x : Scheduler) : (s.withSched x).terminal = s.terminal := rfl
@[simp] theorem State.withSched_sensClass (x : Scheduler) : (s.withSched x).sensClass = s.sensClass := rfl
@[simp] theorem State.withSched_depth (x : Scheduler) : (s.withSched x).depth = s.depth := rfl
@[simp] theorem State.withSched_gain (x : Scheduler) : (s.withSched x).gain = s.gain := rfl
@[simp] theorem State.withSched_reload (x : Scheduler) : (s.withSched x).reload = s.reload := rfl
@[simp] theorem State.withSched_occMode (x : Scheduler) : (s.withSched x).occMode = s.occMode := rfl
@[simp] theorem State.withSched_holdTime (x : Scheduler) : (s.withSched x).holdTime = s.holdTime := rfl
@[simp] theorem State.withSched_inListenOnly (x : Scheduler) : (s.withSched x).inListenOnly = s.inListenOnly := rfl
@[simp] theorem State.withSched_live (x : Scheduler) : (s.withSched x).live = s.live := rfl
@[simp] theorem State.withSched_stageRuns (x : Scheduler) : (s.withSched x).stageRuns = s.stageRuns := rfl
@[simp] theorem State.withTable_station (x : NeighbourTable) : (s.withTable x).station = s.station := rfl
@[simp] theorem State.withTable_terminal (x : NeighbourTable) : (s.withTable x).terminal = s.terminal := rfl
@[simp] theorem State.withTable_sensClass (x : NeighbourTable) : (s.withTable x).sensClass = s.sensClass := rfl
@[simp] theorem State.withTable_depth (x : NeighbourTable) : (s.withTable x).depth = s.depth := rfl
@[simp] theorem State.withTable_gain (x : NeighbourTable) : (s.withTable x).gain = s.gain := rfl
@[simp] theorem State.withTable_reload (x : NeighbourTable) : (s.withTable x).reload = s.reload := rfl
@[simp] theorem State.withTable_occMode (x : NeighbourTable) : (s.withTable x).occMode = s.occMode := rfl
@[simp] theorem State.withTable_holdTime (x : NeighbourTable) : (s.withTable x).holdTime = s.holdTime := rfl
@[simp] theorem State.withTable_inListenOnly (x : NeighbourTable) : (s.withTable x).inListenOnly = s.inListenOnly := rfl
@[simp] theorem State.withTable_live (x : NeighbourTable) : (s.withTable x).live = s.live := rfl
@[simp] theorem State.withTable_stageRuns (x : NeighbourTable) : (s.withTable x).stageRuns = s.stageRuns := rfl
@[simp] theorem State.withElection_station (x : Election) : (s.withElection x).station = s.station := rfl
@[simp] theorem State.withElection_terminal (x : Election) : (s.withElection x).terminal = s.terminal := rfl
@[simp] theorem State.withElection_sensClass (x : Election) : (s.withElection x).sensClass = s.sensClass := rfl
@[simp] theorem State.withElection_depth (x : Election) : (s.withElection x).depth = s.depth := rfl
@[simp] theorem State.withElection_gain (x : Election) : (s.withElection x).gain = s.gain := rfl
@[simp] theorem State.withElection_reload (x : Election) : (s.withElection x).reload = s.reload := rfl
@[simp] theorem State.withElection_occMode (x : Election) : (s.withElection x).occMode = s.occMode := rfl
@[simp] theorem State.withElection_holdTime (x : Election) : (s.withElection x).holdTime = s.holdTime := rfl
@[simp] theorem State.withElection_inListenOnly (x : Election) : (s.withElection x).inListenOnly = s.inListenOnly := rfl
@[simp] theorem State.withElection_live (x : Election) : (s.withElection x).live = s.live := rfl
@[simp] theorem State.withElection_stageRuns (x : Election) : (s.withElection x).stageRuns = s.stageRuns := rfl
@[simp] theorem State.withZone_station (x : WorkingZone) : (s.withZone x).station = s.station := rfl
@[simp] theorem State.withZone_terminal (x : WorkingZone) : (s.withZone x).terminal = s.terminal := rfl
@[simp] theorem State.withZone_sensClass (x : WorkingZone) : (s.withZone x).sensClass = s.sensClass := rfl
@[simp] theorem State.withZone_depth (x : WorkingZone) : (s.withZone x).depth = s.depth := rfl
@[simp] theorem State.withZone_gain (x : WorkingZone) : (s.withZone x).gain = s.gain := rfl
@[simp] theorem State.withZone_reload (x : WorkingZone) : (s.withZone x).reload = s.reload := rfl
@[simp] theorem State.withZone_occMode (x : WorkingZone) : (s.withZone x).occMode = s.occMode := rfl
@[simp] theorem State.withZone_holdTime (x : WorkingZone) : (s.withZone x).holdTime = s.holdTime := rfl
@[simp] theorem State.withZone_inListenOnly (x : WorkingZone) : (s.withZone x).inListenOnly = s.inListenOnly := rfl
@[simp] theorem State.withZone_live (x : WorkingZone) : (s.withZone x).live = s.live := rfl
@[simp] theorem State.withZone_stageRuns (x : WorkingZone) : (s.withZone x).stageRuns = s.stageRuns := rfl
@[simp] theorem State.withLight_station (x : Lighting) : (s.withLight x).station = s.station := rfl
@[simp] theorem State.withLight_terminal (x : Lighting) : (s.withLight x).terminal = s.terminal := rfl
@[simp] theorem State.withLight_sensClass (x : Lighting) : (s.withLight x).sensClass = s.sensClass := rfl
@[simp] theorem State.withLight_depth (x : Lighting) : (s.withLight x).depth = s.depth := rfl
@[simp] theorem State.withLight_gain (x : Lighting) : (s.withLight x).gain = s.gain := rfl
@[simp] theorem State.withLight_reload (x : Lighting) : (s.withLight x).reload = s.reload := rfl
@[simp] theorem State.withLight_occMode (x : Lighting) : (s.withLight x).occMode = s.occMode := rfl
@[simp] theorem State.withLight_holdTime (x : Lighting) : (s.withLight x).holdTime = s.holdTime := rfl
@[simp] theorem State.withLight_inListenOnly (x : Lighting) : (s.withLight x).inListenOnly = s.inListenOnly := rfl
@[simp] theorem State.withLight_live (x : Lighting) : (s.withLight x).live = s.live := rfl
@[simp] theorem State.withLight_stageRuns (x : Lighting) : (s.withLight x).stageRuns = s.stageRuns := rfl
@[simp] theorem State.withClimate_station (x : Climate) : (s.withClimate x).station = s.station := rfl
@[simp] theorem State.withClimate_terminal (x : Climate) : (s.withClimate x).terminal = s.terminal := rfl
@[simp] theorem State.withClimate_sensClass (x : Climate) : (s.withClimate x).sensClass = s.sensClass := rfl
@[simp] theorem State.withClimate_depth (x : Climate) : (s.withClimate x).depth = s.depth := rfl
@[simp] theorem State.withClimate_gain (x : Climate) : (s.withClimate x).gain = s.gain := rfl
@[simp] theorem State.withClimate_reload (x : Climate) : (s.withClimate x).reload = s.reload := rfl
@[simp] theorem State.withClimate_occMode (x : Climate) : (s.withClimate x).occMode = s.occMode := rfl
@[simp] theorem State.withClimate_holdTime (x : Climate) : (s.withClimate x).holdTime = s.holdTime := rfl
@[simp] theorem State.withClimate_inListenOnly (x : Climate) : (s.withClimate x).inListenOnly = s.inListenOnly := rfl
@[simp] theorem State.withClimate_live (x : Climate) : (s.withClimate x).live = s.live := rfl
@[simp] theorem State.withClimate_stageRuns (x : Climate) : (s.withClimate x).stageRuns = s.stageRuns := rfl
@[simp] theorem State.withLine_station (x : LineInterface) : (s.withLine x).station = s.station := rfl
@[simp] theorem State.withLine_terminal (x : LineInterface) : (s.withLine x).terminal = s.terminal := rfl
@[simp] theorem State.withLine_sensClass (x : LineInterface) : (s.withLine x).sensClass = s.sensClass := rfl
@[simp] theorem State.withLine_depth (x : LineInterface) : (s.withLine x).depth = s.depth := rfl
@[simp] theorem State.withLine_gain (x : LineInterface) : (s.withLine x).gain = s.gain := rfl
@[simp] theorem State.withLine_reload (x : LineInterface) : (s.withLine x).reload = s.reload := rfl
@[simp] theorem State.withLine_occMode (x : LineInterface) : (s.withLine x).occMode = s.occMode := rfl
@[simp] theorem State.withLine_holdTime (x : LineInterface) : (s.withLine x).holdTime = s.holdTime := rfl
@[simp] theorem State.withLine_inListenOnly (x : LineInterface) : (s.withLine x).inListenOnly = s.inListenOnly := rfl
@[simp] theorem State.withLine_live (x : LineInterface) : (s.withLine x).live = s.live := rfl
@[simp] theorem State.withLine_stageRuns (x : LineInterface) : (s.withLine x).stageRuns = s.stageRuns := rfl
@[simp] theorem State.withMemory_terminal (x : ZoneMemory) : (s.withMemory x).terminal = s.terminal := rfl
@[simp] theorem State.withMemory_sensClass (x : ZoneMemory) : (s.withMemory x).sensClass = s.sensClass := rfl
@[simp] theorem State.withMemory_depth (x : ZoneMemory) : (s.withMemory x).depth = s.depth := rfl
@[simp] theorem State.withMemory_gain (x : ZoneMemory) : (s.withMemory x).gain = s.gain := rfl
@[simp] theorem State.withMemory_reload (x : ZoneMemory) : (s.withMemory x).reload = s.reload := rfl
@[simp] theorem State.withMemory_occMode (x : ZoneMemory) : (s.withMemory x).occMode = s.occMode := rfl
@[simp] theorem State.withMemory_holdTime (x : ZoneMemory) : (s.withMemory x).holdTime = s.holdTime := rfl
@[simp] theorem State.withMemory_inListenOnly (x : ZoneMemory) : (s.withMemory x).inListenOnly = s.inListenOnly := rfl
@[simp] theorem State.withMemory_live (x : ZoneMemory) : (s.withMemory x).live = s.live := rfl
@[simp] theorem State.withMemory_stageRuns (x : ZoneMemory) : (s.withMemory x).stageRuns = s.stageRuns := rfl
@[simp] theorem State.afterDraw_station : s.afterDraw.station = s.station := rfl
@[simp] theorem State.count_station (f : Counters → Counters) : (s.count f).station = s.station := rfl
@[simp] theorem State.withSlot_station (i : Nat) (e : Option Entry) : (s.withSlot i e).station = s.station := rfl
@[simp] theorem State.afterDraw_terminal : s.afterDraw.terminal = s.terminal := rfl
@[simp] theorem State.count_terminal (f : Counters → Counters) : (s.count f).terminal = s.terminal := rfl
@[simp] theorem State.withSlot_terminal (i : Nat) (e : Option Entry) : (s.withSlot i e).terminal = s.terminal := rfl
@[simp] theorem State.afterDraw_sensClass : s.afterDraw.sensClass = s.sensClass := rfl
@[simp] theorem State.count_sensClass (f : Counters → Counters) : (s.count f).sensClass = s.sensClass := rfl
@[simp] theorem State.withSlot_sensClass (i : Nat) (e : Option Entry) : (s.withSlot i e).sensClass = s.sensClass := rfl
@[simp] theorem State.afterDraw_depth : s.afterDraw.depth = s.depth := rfl
@[simp] theorem State.count_depth (f : Counters → Counters) : (s.count f).depth = s.depth := rfl
@[simp] theorem State.withSlot_depth (i : Nat) (e : Option Entry) : (s.withSlot i e).depth = s.depth := rfl
@[simp] theorem State.afterDraw_gain : s.afterDraw.gain = s.gain := rfl
@[simp] theorem State.count_gain (f : Counters → Counters) : (s.count f).gain = s.gain := rfl
@[simp] theorem State.withSlot_gain (i : Nat) (e : Option Entry) : (s.withSlot i e).gain = s.gain := rfl
@[simp] theorem State.afterDraw_reload : s.afterDraw.reload = s.reload := rfl
@[simp] theorem State.count_reload (f : Counters → Counters) : (s.count f).reload = s.reload := rfl
@[simp] theorem State.withSlot_reload (i : Nat) (e : Option Entry) : (s.withSlot i e).reload = s.reload := rfl
@[simp] theorem State.afterDraw_occMode : s.afterDraw.occMode = s.occMode := rfl
@[simp] theorem State.count_occMode (f : Counters → Counters) : (s.count f).occMode = s.occMode := rfl
@[simp] theorem State.withSlot_occMode (i : Nat) (e : Option Entry) : (s.withSlot i e).occMode = s.occMode := rfl
@[simp] theorem State.afterDraw_holdTime : s.afterDraw.holdTime = s.holdTime := rfl
@[simp] theorem State.count_holdTime (f : Counters → Counters) : (s.count f).holdTime = s.holdTime := rfl
@[simp] theorem State.withSlot_holdTime (i : Nat) (e : Option Entry) : (s.withSlot i e).holdTime = s.holdTime := rfl
@[simp] theorem State.afterDraw_inListenOnly : s.afterDraw.inListenOnly = s.inListenOnly := rfl
@[simp] theorem State.count_inListenOnly (f : Counters → Counters) : (s.count f).inListenOnly = s.inListenOnly := rfl
@[simp] theorem State.withSlot_inListenOnly (i : Nat) (e : Option Entry) : (s.withSlot i e).inListenOnly = s.inListenOnly := rfl
@[simp] theorem State.afterDraw_live : s.afterDraw.live = s.live := rfl
@[simp] theorem State.count_live (f : Counters → Counters) : (s.count f).live = s.live := rfl
@[simp] theorem State.withSlot_live (i : Nat) (e : Option Entry) : (s.withSlot i e).live = s.live := rfl
@[simp] theorem State.afterDraw_stageRuns : s.afterDraw.stageRuns = s.stageRuns := rfl
@[simp] theorem State.count_stageRuns (f : Counters → Counters) : (s.count f).stageRuns = s.stageRuns := rfl
@[simp] theorem State.withSlot_stageRuns (i : Nat) (e : Option Entry) : (s.withSlot i e).stageRuns = s.stageRuns := rfl

end Sys2Proof.Machine
end

