-- ==== Sys2Proof/Laws/Frames.lean ====
section
/-! SUPPORT. One frame lemma per shared operation: the blocks it never writes. As simp lemmas they spare later proofs the
unfolding of the operation. -/

namespace Sys2Proof.Machine

variable (s : State)

/-- A view that no step of a fold changes is unchanged by the fold. -/
theorem foldl_view {α β : Type} (view : State → β) (f : State → α → State) (h : ∀ s a, view (f s a) = view s)
    (l : List α) (s : State) : view (l.foldl f s) = view s := by
  induction l generalizing s with
  | nil => rfl
  | cons a rest ih => simp [List.foldl_cons, ih, h]

/-- A free choice is one of its alternatives, with the free values read counted up where they differ. -/
theorem pickFree_cases (alternatives : List State) (s : State) :
    (alternatives = [] ∧ pickFree alternatives s = s) ∨
      ∃ a ∈ alternatives, pickFree alternatives s = a ∨ pickFree alternatives s = { a with free := a.free + 1 } := by
  cases alternatives with
  | nil => exact .inl ⟨rfl, rfl⟩
  | cons a rest =>
    refine .inr ?_
    by_cases h : rest.all (fun b => decide (b = a)) = true
    · exact ⟨a, by simp, .inl (by simp only [pickFree, h, if_true])⟩
    · refine ⟨(a :: rest).getD (Config.orderChoice s.free % (rest.length + 1)) a, ?_, .inr (by simp only [pickFree, h]; rfl)⟩
      have hlt : Config.orderChoice s.free % (rest.length + 1) < (a :: rest).length :=
        Nat.mod_lt _ (Nat.succ_pos _)
      rw [List.getD_eq_getElem _ _ hlt]
      exact List.getElem_mem hlt

/-- Two deliveries in either order are one of the two orders. -/
theorem eitherOrder_cases (f g : State → State) (s : State) :
    ∃ a, (a = g (f s) ∨ a = f (g s)) ∧
      (eitherOrder f g s = a ∨ eitherOrder f g s = { a with free := a.free + 1 }) := by
  rcases pickFree_cases [g (f s), f (g s)] s with ⟨h, -⟩ | ⟨a, ha, h⟩
  · cases h
  · exact ⟨a, by simpa using ha, h⟩

/-- Three deliveries in any order are one of the six orders. -/
theorem anyOrder_cases (f g h : State → State) (s : State) :
    ∃ a, (a = h (g (f s)) ∨ a = g (h (f s)) ∨ a = h (f (g s)) ∨ a = f (h (g s)) ∨ a = g (f (h s)) ∨ a = f (g (h s))) ∧
      (anyOrder f g h s = a ∨ anyOrder f g h s = { a with free := a.free + 1 }) := by
  rcases pickFree_cases [h (g (f s)), g (h (f s)), h (f (g s)), f (h (g s)), g (f (h s)), f (g (h s))] s with
    ⟨e, -⟩ | ⟨a, ha, e⟩
  · cases e
  · exact ⟨a, by simpa using ha, e⟩

/-- A view that neither delivery changes, nor the count of the free values, is unchanged by both in either order. -/
theorem eitherOrder_view {β : Type} (view : State → β) (f g : State → State) (hf : ∀ s, view (f s) = view s)
    (hg : ∀ s, view (g s) = view s) (hfree : ∀ s n, view { s with free := n } = view s) (s : State) :
    view (eitherOrder f g s) = view s := by
  obtain ⟨a, ha, h⟩ := eitherOrder_cases f g s
  rcases ha with rfl | rfl <;> rcases h with h | h <;> simp [h, hf, hg, hfree]

/-- The same for three deliveries. -/
theorem anyOrder_view {β : Type} (view : State → β) (f g h : State → State) (hf : ∀ s, view (f s) = view s)
    (hg : ∀ s, view (g s) = view s) (hh : ∀ s, view (h s) = view s)
    (hfree : ∀ s n, view { s with free := n } = view s) (s : State) : view (anyOrder f g h s) = view s := by
  obtain ⟨a, ha, e⟩ := anyOrder_cases f g h s
  rcases ha with rfl | rfl | rfl | rfl | rfl | rfl <;> rcases e with e | e <;> simp [e, hf, hg, hh, hfree]

/-! ### Transmit queue -/

@[simp] theorem fixHead_frame :
    (fixHead s).phase = s.phase ∧ (fixHead s).straps = s.straps ∧ (fixHead s).prescaler = s.prescaler ∧
    (fixHead s).round = s.round ∧ (fixHead s).sense = s.sense ∧ (fixHead s).sched = s.sched ∧
    (fixHead s).table = s.table ∧ (fixHead s).election = s.election ∧ (fixHead s).zone = s.zone ∧
    (fixHead s).light = s.light ∧ (fixHead s).climate = s.climate ∧ (fixHead s).memory = s.memory ∧
    (fixHead s).free = s.free ∧ (fixHead s).pending = s.pending := by
  unfold fixHead
  try dsimp only
  (repeat' split) <;> simp

@[simp] theorem enterOrDisplace_frame (r : Request) :
    (enterOrDisplace r s).phase = s.phase ∧ (enterOrDisplace r s).straps = s.straps ∧
    (enterOrDisplace r s).prescaler = s.prescaler ∧ (enterOrDisplace r s).round = s.round ∧
    (enterOrDisplace r s).sense = s.sense ∧ (enterOrDisplace r s).sched = s.sched ∧
    (enterOrDisplace r s).table = s.table ∧ (enterOrDisplace r s).election = s.election ∧
    (enterOrDisplace r s).zone = s.zone ∧ (enterOrDisplace r s).light = s.light ∧
    (enterOrDisplace r s).climate = s.climate ∧ (enterOrDisplace r s).memory = s.memory ∧
    (enterOrDisplace r s).free = s.free ∧ (enterOrDisplace r s).pending = s.pending := by
  unfold enterOrDisplace
  try dsimp only
  (repeat' split) <;> simp

@[simp] theorem offer_frame (r : Request) :
    (offer r s).phase = s.phase ∧ (offer r s).straps = s.straps ∧ (offer r s).prescaler = s.prescaler ∧
    (offer r s).round = s.round ∧ (offer r s).sense = s.sense ∧ (offer r s).sched = s.sched ∧
    (offer r s).table = s.table ∧ (offer r s).election = s.election ∧ (offer r s).zone = s.zone ∧
    (offer r s).light = s.light ∧ (offer r s).climate = s.climate ∧ (offer r s).memory = s.memory ∧
    (offer r s).free = s.free ∧ (offer r s).pending = s.pending := by
  unfold offer
  try dsimp only
  (repeat' split) <;> simp

@[simp] theorem withdraw_frame (r : Request) :
    (withdraw r s).phase = s.phase ∧ (withdraw r s).straps = s.straps ∧ (withdraw r s).prescaler = s.prescaler ∧
    (withdraw r s).round = s.round ∧ (withdraw r s).sense = s.sense ∧ (withdraw r s).sched = s.sched ∧
    (withdraw r s).table = s.table ∧ (withdraw r s).election = s.election ∧ (withdraw r s).zone = s.zone ∧
    (withdraw r s).light = s.light ∧ (withdraw r s).climate = s.climate ∧ (withdraw r s).memory = s.memory ∧
    (withdraw r s).free = s.free ∧ (withdraw r s).pending = s.pending := by
  unfold withdraw
  try dsimp only
  (repeat' split) <;> simp

/-! ### Probe Scheduler -/

@[simp] theorem restWithNewProbe_frame :
    (restWithNewProbe s).phase = s.phase ∧ (restWithNewProbe s).straps = s.straps ∧
    (restWithNewProbe s).prescaler = s.prescaler ∧ (restWithNewProbe s).round = s.round ∧
    (restWithNewProbe s).sense = s.sense ∧ (restWithNewProbe s).table = s.table ∧
    (restWithNewProbe s).election = s.election ∧ (restWithNewProbe s).zone = s.zone ∧
    (restWithNewProbe s).light = s.light ∧ (restWithNewProbe s).climate = s.climate ∧
    (restWithNewProbe s).line = s.line ∧ (restWithNewProbe s).memory = s.memory ∧
    (restWithNewProbe s).free = s.free ∧ (restWithNewProbe s).pending = s.pending := by
  unfold restWithNewProbe
  try dsimp only
  simp

@[simp] theorem reloadForBrisk_frame :
    (reloadForBrisk s).phase = s.phase ∧ (reloadForBrisk s).straps = s.straps ∧
    (reloadForBrisk s).prescaler = s.prescaler ∧ (reloadForBrisk s).round = s.round ∧
    (reloadForBrisk s).sense = s.sense ∧ (reloadForBrisk s).table = s.table ∧
    (reloadForBrisk s).election = s.election ∧ (reloadForBrisk s).zone = s.zone ∧
    (reloadForBrisk s).light = s.light ∧ (reloadForBrisk s).climate = s.climate ∧
    (reloadForBrisk s).line = s.line ∧ (reloadForBrisk s).memory = s.memory ∧ (reloadForBrisk s).free = s.free ∧
    (reloadForBrisk s).pending = s.pending := by
  unfold reloadForBrisk
  try dsimp only
  simp

@[simp] theorem enterBrisk_frame (d : Nat) :
    (enterBrisk d s).phase = s.phase ∧ (enterBrisk d s).straps = s.straps ∧
    (enterBrisk d s).prescaler = s.prescaler ∧ (enterBrisk d s).round = s.round ∧
    (enterBrisk d s).sense = s.sense ∧ (enterBrisk d s).table = s.table ∧ (enterBrisk d s).election = s.election ∧
    (enterBrisk d s).zone = s.zone ∧ (enterBrisk d s).light = s.light ∧ (enterBrisk d s).climate = s.climate ∧
    (enterBrisk d s).line = s.line ∧ (enterBrisk d s).memory = s.memory ∧ (enterBrisk d s).free = s.free ∧
    (enterBrisk d s).pending = s.pending := by
  unfold enterBrisk
  try dsimp only
  (repeat' split) <;> simp

@[simp] theorem startRetryDelay_frame :
    (startRetryDelay s).phase = s.phase ∧ (startRetryDelay s).straps = s.straps ∧
    (startRetryDelay s).prescaler = s.prescaler ∧ (startRetryDelay s).round = s.round ∧
    (startRetryDelay s).sense = s.sense ∧ (startRetryDelay s).table = s.table ∧
    (startRetryDelay s).election = s.election ∧ (startRetryDelay s).zone = s.zone ∧
    (startRetryDelay s).light = s.light ∧ (startRetryDelay s).climate = s.climate ∧
    (startRetryDelay s).line = s.line ∧ (startRetryDelay s).memory = s.memory ∧ (startRetryDelay s).free = s.free ∧
    (startRetryDelay s).pending = s.pending := by
  unfold startRetryDelay
  try dsimp only
  simp

@[simp] theorem schedListed_frame :
    (schedListed s).phase = s.phase ∧ (schedListed s).straps = s.straps ∧ (schedListed s).prescaler = s.prescaler ∧
    (schedListed s).rng = s.rng ∧ (schedListed s).round = s.round ∧ (schedListed s).sense = s.sense ∧
    (schedListed s).table = s.table ∧ (schedListed s).election = s.election ∧ (schedListed s).zone = s.zone ∧
    (schedListed s).light = s.light ∧ (schedListed s).climate = s.climate ∧ (schedListed s).line = s.line ∧
    (schedListed s).memory = s.memory ∧ (schedListed s).free = s.free ∧ (schedListed s).pending = s.pending := by
  unfold schedListed
  try dsimp only
  (repeat' split) <;> simp

@[simp] theorem schedNotAdmitted_frame :
    (schedNotAdmitted s).phase = s.phase ∧ (schedNotAdmitted s).straps = s.straps ∧
    (schedNotAdmitted s).prescaler = s.prescaler ∧ (schedNotAdmitted s).round = s.round ∧
    (schedNotAdmitted s).sense = s.sense ∧ (schedNotAdmitted s).table = s.table ∧
    (schedNotAdmitted s).election = s.election ∧ (schedNotAdmitted s).zone = s.zone ∧
    (schedNotAdmitted s).light = s.light ∧ (schedNotAdmitted s).climate = s.climate ∧
    (schedNotAdmitted s).line = s.line ∧ (schedNotAdmitted s).memory = s.memory ∧
    (schedNotAdmitted s).free = s.free ∧ (schedNotAdmitted s).pending = s.pending := by
  unfold schedNotAdmitted
  try dsimp only
  (repeat' split) <;> simp

@[simp] theorem schedClose_frame :
    (schedClose s).phase = s.phase ∧ (schedClose s).straps = s.straps ∧ (schedClose s).prescaler = s.prescaler ∧
    (schedClose s).round = s.round ∧ (schedClose s).sense = s.sense ∧ (schedClose s).table = s.table ∧
    (schedClose s).election = s.election ∧ (schedClose s).zone = s.zone ∧ (schedClose s).light = s.light ∧
    (schedClose s).climate = s.climate ∧ (schedClose s).line = s.line ∧ (schedClose s).memory = s.memory ∧
    (schedClose s).free = s.free ∧ (schedClose s).pending = s.pending := by
  unfold schedClose
  try dsimp only
  (repeat' split) <;> simp

@[simp] theorem queueingDecision_frame :
    (queueingDecision s).phase = s.phase ∧ (queueingDecision s).straps = s.straps ∧
    (queueingDecision s).prescaler = s.prescaler ∧ (queueingDecision s).round = s.round ∧
    (queueingDecision s).sense = s.sense ∧ (queueingDecision s).table = s.table ∧
    (queueingDecision s).election = s.election ∧ (queueingDecision s).zone = s.zone ∧
    (queueingDecision s).light = s.light ∧ (queueingDecision s).climate = s.climate ∧
    (queueingDecision s).memory = s.memory ∧ (queueingDecision s).free = s.free ∧
    (queueingDecision s).pending = s.pending := by
  unfold queueingDecision
  try dsimp only
  (repeat' split) <;> simp

/-! ### Zone Memory -/

@[simp] theorem startSave_frame :
    (startSave s).phase = s.phase ∧ (startSave s).straps = s.straps ∧ (startSave s).prescaler = s.prescaler ∧
    (startSave s).rng = s.rng ∧ (startSave s).round = s.round ∧ (startSave s).sense = s.sense ∧
    (startSave s).sched = s.sched ∧ (startSave s).table = s.table ∧ (startSave s).election = s.election ∧
    (startSave s).zone = s.zone ∧ (startSave s).light = s.light ∧ (startSave s).climate = s.climate ∧
    (startSave s).line = s.line ∧ (startSave s).free = s.free ∧ (startSave s).pending = s.pending := by
  unfold startSave
  try dsimp only
  simp

@[simp] theorem saveRequest_frame :
    (saveRequest s).phase = s.phase ∧ (saveRequest s).straps = s.straps ∧ (saveRequest s).prescaler = s.prescaler ∧
    (saveRequest s).rng = s.rng ∧ (saveRequest s).round = s.round ∧ (saveRequest s).sense = s.sense ∧
    (saveRequest s).sched = s.sched ∧ (saveRequest s).table = s.table ∧ (saveRequest s).election = s.election ∧
    (saveRequest s).zone = s.zone ∧ (saveRequest s).light = s.light ∧ (saveRequest s).climate = s.climate ∧
    (saveRequest s).line = s.line ∧ (saveRequest s).free = s.free ∧ (saveRequest s).pending = s.pending := by
  unfold saveRequest
  try dsimp only
  (repeat' split) <;> simp

@[simp] theorem startPendingSave_frame :
    (startPendingSave s).phase = s.phase ∧ (startPendingSave s).straps = s.straps ∧
    (startPendingSave s).prescaler = s.prescaler ∧ (startPendingSave s).rng = s.rng ∧
    (startPendingSave s).round = s.round ∧ (startPendingSave s).sense = s.sense ∧
    (startPendingSave s).sched = s.sched ∧ (startPendingSave s).table = s.table ∧
    (startPendingSave s).election = s.election ∧ (startPendingSave s).zone = s.zone ∧
    (startPendingSave s).light = s.light ∧ (startPendingSave s).climate = s.climate ∧
    (startPendingSave s).line = s.line ∧ (startPendingSave s).free = s.free ∧
    (startPendingSave s).pending = s.pending := by
  unfold startPendingSave
  try dsimp only
  (repeat' split) <;> simp

@[simp] theorem memoryLinkEvent_frame :
    (memoryLinkEvent s).phase = s.phase ∧ (memoryLinkEvent s).straps = s.straps ∧
    (memoryLinkEvent s).prescaler = s.prescaler ∧ (memoryLinkEvent s).rng = s.rng ∧
    (memoryLinkEvent s).round = s.round ∧ (memoryLinkEvent s).sense = s.sense ∧
    (memoryLinkEvent s).sched = s.sched ∧ (memoryLinkEvent s).table = s.table ∧
    (memoryLinkEvent s).election = s.election ∧ (memoryLinkEvent s).zone = s.zone ∧
    (memoryLinkEvent s).light = s.light ∧ (memoryLinkEvent s).climate = s.climate ∧
    (memoryLinkEvent s).line = s.line ∧ (memoryLinkEvent s).free = s.free ∧ (memoryLinkEvent s).pending = s.pending := by
  unfold memoryLinkEvent
  try dsimp only
  (repeat' split) <;> simp

/-! ### Lighting Unit -/

@[simp] theorem zonePresence_frame :
    (zonePresence s).phase = s.phase ∧ (zonePresence s).straps = s.straps ∧
    (zonePresence s).prescaler = s.prescaler ∧ (zonePresence s).rng = s.rng ∧ (zonePresence s).round = s.round ∧
    (zonePresence s).sense = s.sense ∧ (zonePresence s).sched = s.sched ∧ (zonePresence s).table = s.table ∧
    (zonePresence s).election = s.election ∧ (zonePresence s).zone = s.zone ∧
    (zonePresence s).climate = s.climate ∧ (zonePresence s).line = s.line ∧ (zonePresence s).memory = s.memory ∧
    (zonePresence s).free = s.free ∧ (zonePresence s).pending = s.pending := by
  unfold zonePresence
  try dsimp only
  (repeat' split) <;> simp

@[simp] theorem localPresence_frame :
    (localPresence s).phase = s.phase ∧ (localPresence s).straps = s.straps ∧
    (localPresence s).prescaler = s.prescaler ∧ (localPresence s).round = s.round ∧
    (localPresence s).sense = s.sense ∧ (localPresence s).sched = s.sched ∧ (localPresence s).table = s.table ∧
    (localPresence s).election = s.election ∧ (localPresence s).zone = s.zone ∧
    (localPresence s).climate = s.climate ∧ (localPresence s).memory = s.memory ∧ (localPresence s).free = s.free ∧
    (localPresence s).pending = s.pending := by
  unfold localPresence
  try dsimp only
  (repeat' split) <;> simp

@[simp] theorem takePresence_frame (z : Station) :
    (takePresence z s).phase = s.phase ∧ (takePresence z s).straps = s.straps ∧
    (takePresence z s).prescaler = s.prescaler ∧ (takePresence z s).rng = s.rng ∧
    (takePresence z s).round = s.round ∧ (takePresence z s).sense = s.sense ∧ (takePresence z s).sched = s.sched ∧
    (takePresence z s).table = s.table ∧ (takePresence z s).election = s.election ∧
    (takePresence z s).zone = s.zone ∧ (takePresence z s).climate = s.climate ∧ (takePresence z s).line = s.line ∧
    (takePresence z s).memory = s.memory ∧ (takePresence z s).free = s.free ∧ (takePresence z s).pending = s.pending := by
  unfold takePresence
  try dsimp only
  (repeat' split) <;> simp

@[simp] theorem setTask_frame (t : Nat) :
    (setTask t s).phase = s.phase ∧ (setTask t s).straps = s.straps ∧ (setTask t s).prescaler = s.prescaler ∧
    (setTask t s).rng = s.rng ∧ (setTask t s).round = s.round ∧ (setTask t s).sense = s.sense ∧
    (setTask t s).sched = s.sched ∧ (setTask t s).table = s.table ∧ (setTask t s).election = s.election ∧
    (setTask t s).zone = s.zone ∧ (setTask t s).climate = s.climate ∧ (setTask t s).line = s.line ∧
    (setTask t s).memory = s.memory ∧ (setTask t s).free = s.free ∧ (setTask t s).pending = s.pending := by
  unfold setTask
  try dsimp only
  (repeat' split) <;> simp

@[simp] theorem loadCompare_frame (l : Nat) :
    (loadCompare l s).phase = s.phase ∧ (loadCompare l s).straps = s.straps ∧
    (loadCompare l s).prescaler = s.prescaler ∧ (loadCompare l s).rng = s.rng ∧ (loadCompare l s).round = s.round ∧
    (loadCompare l s).sense = s.sense ∧ (loadCompare l s).sched = s.sched ∧ (loadCompare l s).table = s.table ∧
    (loadCompare l s).election = s.election ∧ (loadCompare l s).zone = s.zone ∧
    (loadCompare l s).climate = s.climate ∧ (loadCompare l s).line = s.line ∧ (loadCompare l s).memory = s.memory ∧
    (loadCompare l s).free = s.free ∧ (loadCompare l s).pending = s.pending := by
  unfold loadCompare
  try dsimp only
  simp

@[simp] theorem fadeStep_frame :
    (fadeStep s).phase = s.phase ∧ (fadeStep s).straps = s.straps ∧ (fadeStep s).prescaler = s.prescaler ∧
    (fadeStep s).rng = s.rng ∧ (fadeStep s).round = s.round ∧ (fadeStep s).sense = s.sense ∧
    (fadeStep s).sched = s.sched ∧ (fadeStep s).table = s.table ∧ (fadeStep s).election = s.election ∧
    (fadeStep s).zone = s.zone ∧ (fadeStep s).climate = s.climate ∧ (fadeStep s).line = s.line ∧
    (fadeStep s).memory = s.memory ∧ (fadeStep s).free = s.free ∧ (fadeStep s).pending = s.pending := by
  unfold fadeStep
  try dsimp only
  (repeat' split) <;> simp

/-! ### Climate Unit -/

@[simp] theorem reportTemperature_frame (i : Station) (t : Int) :
    (reportTemperature i t s).phase = s.phase ∧ (reportTemperature i t s).straps = s.straps ∧
    (reportTemperature i t s).prescaler = s.prescaler ∧ (reportTemperature i t s).rng = s.rng ∧
    (reportTemperature i t s).round = s.round ∧ (reportTemperature i t s).sense = s.sense ∧
    (reportTemperature i t s).sched = s.sched ∧ (reportTemperature i t s).table = s.table ∧
    (reportTemperature i t s).election = s.election ∧ (reportTemperature i t s).zone = s.zone ∧
    (reportTemperature i t s).light = s.light ∧ (reportTemperature i t s).line = s.line ∧
    (reportTemperature i t s).memory = s.memory ∧ (reportTemperature i t s).free = s.free ∧
    (reportTemperature i t s).pending = s.pending := by
  unfold reportTemperature
  try dsimp only
  simp

@[simp] theorem takeWarmth_frame (i z : Station) (t : Int) :
    (takeWarmth i z t s).phase = s.phase ∧ (takeWarmth i z t s).straps = s.straps ∧
    (takeWarmth i z t s).prescaler = s.prescaler ∧ (takeWarmth i z t s).rng = s.rng ∧
    (takeWarmth i z t s).round = s.round ∧ (takeWarmth i z t s).sense = s.sense ∧
    (takeWarmth i z t s).sched = s.sched ∧ (takeWarmth i z t s).table = s.table ∧
    (takeWarmth i z t s).election = s.election ∧ (takeWarmth i z t s).zone = s.zone ∧
    (takeWarmth i z t s).light = s.light ∧ (takeWarmth i z t s).line = s.line ∧
    (takeWarmth i z t s).memory = s.memory ∧ (takeWarmth i z t s).free = s.free ∧
    (takeWarmth i z t s).pending = s.pending := by
  unfold takeWarmth
  try dsimp only
  (repeat' split) <;> simp

@[simp] theorem takeBurst_frame (c : List AdcCode) :
    (takeBurst c s).phase = s.phase ∧ (takeBurst c s).straps = s.straps ∧ (takeBurst c s).prescaler = s.prescaler ∧
    (takeBurst c s).rng = s.rng ∧ (takeBurst c s).round = s.round ∧ (takeBurst c s).sense = s.sense ∧
    (takeBurst c s).sched = s.sched ∧ (takeBurst c s).table = s.table ∧ (takeBurst c s).election = s.election ∧
    (takeBurst c s).zone = s.zone ∧ (takeBurst c s).light = s.light ∧ (takeBurst c s).line = s.line ∧
    (takeBurst c s).memory = s.memory ∧ (takeBurst c s).free = s.free ∧ (takeBurst c s).pending = s.pending := by
  unfold takeBurst
  try dsimp only
  (repeat' split) <;> simp

@[simp] theorem emptyRoster_frame :
    (emptyRoster s).phase = s.phase ∧ (emptyRoster s).straps = s.straps ∧ (emptyRoster s).prescaler = s.prescaler ∧
    (emptyRoster s).rng = s.rng ∧ (emptyRoster s).round = s.round ∧ (emptyRoster s).sense = s.sense ∧
    (emptyRoster s).sched = s.sched ∧ (emptyRoster s).table = s.table ∧ (emptyRoster s).election = s.election ∧
    (emptyRoster s).zone = s.zone ∧ (emptyRoster s).light = s.light ∧ (emptyRoster s).line = s.line ∧
    (emptyRoster s).memory = s.memory ∧ (emptyRoster s).free = s.free ∧ (emptyRoster s).pending = s.pending := by
  unfold emptyRoster
  try dsimp only
  (repeat' split) <;> simp

@[simp] theorem controlLaw_frame :
    (controlLaw s).phase = s.phase ∧ (controlLaw s).straps = s.straps ∧ (controlLaw s).prescaler = s.prescaler ∧
    (controlLaw s).rng = s.rng ∧ (controlLaw s).round = s.round ∧ (controlLaw s).sense = s.sense ∧
    (controlLaw s).sched = s.sched ∧ (controlLaw s).table = s.table ∧ (controlLaw s).election = s.election ∧
    (controlLaw s).zone = s.zone ∧ (controlLaw s).light = s.light ∧ (controlLaw s).line = s.line ∧
    (controlLaw s).memory = s.memory ∧ (controlLaw s).free = s.free ∧ (controlLaw s).pending = s.pending := by
  unfold controlLaw
  try dsimp only
  (repeat' split) <;> simp

/-! ### Working Zone Unit and Zone Election Unit -/

@[simp] theorem handRoot_frame (r : Station) :
    (handRoot r s).phase = s.phase ∧ (handRoot r s).straps = s.straps ∧ (handRoot r s).prescaler = s.prescaler ∧
    (handRoot r s).rng = s.rng ∧ (handRoot r s).round = s.round ∧ (handRoot r s).sense = s.sense ∧
    (handRoot r s).sched = s.sched ∧ (handRoot r s).table = s.table ∧ (handRoot r s).election = s.election ∧
    (handRoot r s).light = s.light ∧ (handRoot r s).climate = s.climate ∧ (handRoot r s).line = s.line ∧
    (handRoot r s).memory = s.memory ∧ (handRoot r s).free = s.free ∧ (handRoot r s).pending = s.pending := by
  unfold handRoot
  try dsimp only
  (repeat' split) <;> simp

@[simp] theorem zoneChange_frame (r : Station) (save : Bool) :
    (zoneChange r save s).phase = s.phase ∧ (zoneChange r save s).straps = s.straps ∧
    (zoneChange r save s).prescaler = s.prescaler ∧ (zoneChange r save s).round = s.round ∧
    (zoneChange r save s).sense = s.sense ∧ (zoneChange r save s).sched = s.sched ∧
    (zoneChange r save s).table = s.table ∧ (zoneChange r save s).election = s.election ∧
    (zoneChange r save s).light = s.light ∧ (zoneChange r save s).free = s.free ∧
    (zoneChange r save s).pending = s.pending := by
  unfold zoneChange
  try dsimp only
  (repeat' split) <;> simp

@[simp] theorem announcementCheck_frame :
    (announcementCheck s).phase = s.phase ∧ (announcementCheck s).straps = s.straps ∧
    (announcementCheck s).prescaler = s.prescaler ∧ (announcementCheck s).round = s.round ∧
    (announcementCheck s).sense = s.sense ∧ (announcementCheck s).sched = s.sched ∧
    (announcementCheck s).table = s.table ∧ (announcementCheck s).election = s.election ∧
    (announcementCheck s).zone = s.zone ∧ (announcementCheck s).light = s.light ∧
    (announcementCheck s).climate = s.climate ∧ (announcementCheck s).memory = s.memory ∧
    (announcementCheck s).free = s.free ∧ (announcementCheck s).pending = s.pending := by
  unfold announcementCheck
  try dsimp only
  (repeat' split) <;> simp

@[simp] theorem rootDuty_frame (a b : Station) :
    (rootDuty a b s).phase = s.phase ∧ (rootDuty a b s).straps = s.straps ∧
    (rootDuty a b s).prescaler = s.prescaler ∧ (rootDuty a b s).rng = s.rng ∧ (rootDuty a b s).round = s.round ∧
    (rootDuty a b s).sense = s.sense ∧ (rootDuty a b s).sched = s.sched ∧ (rootDuty a b s).table = s.table ∧
    (rootDuty a b s).zone = s.zone ∧ (rootDuty a b s).light = s.light ∧ (rootDuty a b s).climate = s.climate ∧
    (rootDuty a b s).line = s.line ∧ (rootDuty a b s).memory = s.memory ∧ (rootDuty a b s).free = s.free ∧
    (rootDuty a b s).pending = s.pending := by
  unfold rootDuty
  try dsimp only
  (repeat' split) <;> simp

@[simp] theorem takeDerived_frame (c : Candidate) :
    (takeDerived c s).phase = s.phase ∧ (takeDerived c s).straps = s.straps ∧
    (takeDerived c s).prescaler = s.prescaler ∧ (takeDerived c s).round = s.round ∧
    (takeDerived c s).sense = s.sense ∧ (takeDerived c s).sched = s.sched ∧ (takeDerived c s).table = s.table ∧
    (takeDerived c s).light = s.light ∧ (takeDerived c s).climate = s.climate ∧
    (takeDerived c s).memory = s.memory ∧ (takeDerived c s).free = s.free ∧ (takeDerived c s).pending = s.pending := by
  unfold takeDerived
  try dsimp only
  (repeat' split) <;> simp

@[simp] theorem derive_frame :
    (derive s).phase = s.phase ∧ (derive s).straps = s.straps ∧ (derive s).prescaler = s.prescaler ∧
    (derive s).round = s.round ∧ (derive s).sense = s.sense ∧ (derive s).sched = s.sched ∧
    (derive s).table = s.table ∧ (derive s).light = s.light ∧ (derive s).climate = s.climate ∧
    (derive s).memory = s.memory ∧ (derive s).free = s.free ∧ (derive s).pending = s.pending := by
  unfold derive
  try dsimp only
  (repeat' split) <;> simp

@[simp] theorem firstDerivation_frame :
    (firstDerivation s).phase = s.phase ∧ (firstDerivation s).straps = s.straps ∧
    (firstDerivation s).prescaler = s.prescaler ∧ (firstDerivation s).round = s.round ∧
    (firstDerivation s).sense = s.sense ∧ (firstDerivation s).sched = s.sched ∧
    (firstDerivation s).table = s.table ∧ (firstDerivation s).light = s.light ∧
    (firstDerivation s).climate = s.climate ∧ (firstDerivation s).memory = s.memory ∧
    (firstDerivation s).free = s.free ∧ (firstDerivation s).pending = s.pending := by
  unfold firstDerivation
  try dsimp only
  (repeat' split) <;> simp

@[simp] theorem ageOutRoot_frame (i : Nat) :
    (ageOutRoot s i).phase = s.phase ∧ (ageOutRoot s i).straps = s.straps ∧
    (ageOutRoot s i).prescaler = s.prescaler ∧ (ageOutRoot s i).round = s.round ∧
    (ageOutRoot s i).sense = s.sense ∧ (ageOutRoot s i).sched = s.sched ∧ (ageOutRoot s i).table = s.table ∧
    (ageOutRoot s i).light = s.light ∧ (ageOutRoot s i).climate = s.climate ∧ (ageOutRoot s i).memory = s.memory ∧
    (ageOutRoot s i).free = s.free ∧ (ageOutRoot s i).pending = s.pending := by
  unfold ageOutRoot
  try dsimp only
  (repeat' split) <;> simp

@[simp] theorem ageRoots_frame :
    (ageRoots s).phase = s.phase ∧ (ageRoots s).straps = s.straps ∧ (ageRoots s).prescaler = s.prescaler ∧
    (ageRoots s).round = s.round ∧ (ageRoots s).sense = s.sense ∧ (ageRoots s).sched = s.sched ∧
    (ageRoots s).table = s.table ∧ (ageRoots s).light = s.light ∧ (ageRoots s).climate = s.climate ∧
    (ageRoots s).memory = s.memory ∧ (ageRoots s).free = s.free ∧ (ageRoots s).pending = s.pending := by
  unfold ageRoots
  try dsimp only
  simp [foldl_view State.phase ageOutRoot (by simp), foldl_view State.straps ageOutRoot (by simp),
      foldl_view State.prescaler ageOutRoot (by simp), foldl_view State.round ageOutRoot (by simp), foldl_view
      State.sense ageOutRoot (by simp), foldl_view State.sched ageOutRoot (by simp), foldl_view State.table
      ageOutRoot (by simp), foldl_view State.light ageOutRoot (by simp), foldl_view State.climate ageOutRoot
      (by simp), foldl_view State.memory ageOutRoot (by simp), foldl_view State.free ageOutRoot (by simp),
      foldl_view State.pending ageOutRoot (by simp)]

/-! ### Neighbour Table -/

@[simp] theorem handLinkEvent_frame :
    (handLinkEvent s).phase = s.phase ∧ (handLinkEvent s).straps = s.straps ∧
    (handLinkEvent s).prescaler = s.prescaler ∧ (handLinkEvent s).round = s.round ∧
    (handLinkEvent s).sense = s.sense ∧ (handLinkEvent s).sched = s.sched ∧ (handLinkEvent s).table = s.table ∧
    (handLinkEvent s).light = s.light ∧ (handLinkEvent s).climate = s.climate ∧ (handLinkEvent s).free = s.free ∧
    (handLinkEvent s).pending = s.pending := by
  unfold handLinkEvent
  try dsimp only
  simp

@[simp] theorem evaluateSlot_frame (i : Nat) :
    (evaluateSlot i s).phase = s.phase ∧ (evaluateSlot i s).straps = s.straps ∧
    (evaluateSlot i s).prescaler = s.prescaler ∧ (evaluateSlot i s).round = s.round ∧
    (evaluateSlot i s).sense = s.sense ∧ (evaluateSlot i s).sched = s.sched ∧ (evaluateSlot i s).light = s.light ∧
    (evaluateSlot i s).climate = s.climate ∧ (evaluateSlot i s).free = s.free ∧
    (evaluateSlot i s).pending = s.pending := by
  unfold evaluateSlot
  try dsimp only
  (repeat' split) <;> simp

@[simp] theorem takeShift_frame :
    (takeShift s).phase = s.phase ∧ (takeShift s).straps = s.straps ∧ (takeShift s).prescaler = s.prescaler ∧
    (takeShift s).round = s.round ∧ (takeShift s).sense = s.sense ∧ (takeShift s).election = s.election ∧
    (takeShift s).zone = s.zone ∧ (takeShift s).light = s.light ∧ (takeShift s).climate = s.climate ∧
    (takeShift s).memory = s.memory ∧ (takeShift s).free = s.free ∧ (takeShift s).pending = s.pending := by
  unfold takeShift
  try dsimp only
  (repeat' split) <;> simp

@[simp] theorem storeSeen_frame (i k : Nat) :
    (storeSeen i k s).phase = s.phase ∧ (storeSeen i k s).straps = s.straps ∧
    (storeSeen i k s).prescaler = s.prescaler ∧ (storeSeen i k s).round = s.round ∧
    (storeSeen i k s).sense = s.sense ∧ (storeSeen i k s).light = s.light ∧ (storeSeen i k s).climate = s.climate ∧
    (storeSeen i k s).free = s.free ∧ (storeSeen i k s).pending = s.pending := by
  unfold storeSeen
  try dsimp only
  (repeat' split) <;> simp

@[simp] theorem storeTold_frame (i v : Nat) :
    (storeTold i v s).phase = s.phase ∧ (storeTold i v s).straps = s.straps ∧
    (storeTold i v s).prescaler = s.prescaler ∧ (storeTold i v s).round = s.round ∧
    (storeTold i v s).sense = s.sense ∧ (storeTold i v s).sched = s.sched ∧ (storeTold i v s).light = s.light ∧
    (storeTold i v s).climate = s.climate ∧ (storeTold i v s).free = s.free ∧ (storeTold i v s).pending = s.pending := by
  unfold storeTold
  try dsimp only
  (repeat' split) <;> simp

@[simp] theorem admission_frame (i : Station) (h : MeasuredHalf) (v : Nat) :
    (admission i h v s).phase = s.phase ∧ (admission i h v s).straps = s.straps ∧
    (admission i h v s).prescaler = s.prescaler ∧ (admission i h v s).rng = s.rng ∧
    (admission i h v s).round = s.round ∧ (admission i h v s).sense = s.sense ∧
    (admission i h v s).sched = s.sched ∧ (admission i h v s).election = s.election ∧
    (admission i h v s).zone = s.zone ∧ (admission i h v s).light = s.light ∧
    (admission i h v s).climate = s.climate ∧ (admission i h v s).memory = s.memory ∧
    (admission i h v s).free = s.free ∧ (admission i h v s).pending = s.pending := by
  unfold admission
  try dsimp only
  (repeat' split) <;> simp

@[simp] theorem takeSelfCoupling_frame (f : Finding) :
    (takeSelfCoupling f s).phase = s.phase ∧ (takeSelfCoupling f s).straps = s.straps ∧
    (takeSelfCoupling f s).prescaler = s.prescaler ∧ (takeSelfCoupling f s).rng = s.rng ∧
    (takeSelfCoupling f s).round = s.round ∧ (takeSelfCoupling f s).sense = s.sense ∧
    (takeSelfCoupling f s).sched = s.sched ∧ (takeSelfCoupling f s).election = s.election ∧
    (takeSelfCoupling f s).zone = s.zone ∧ (takeSelfCoupling f s).light = s.light ∧
    (takeSelfCoupling f s).climate = s.climate ∧ (takeSelfCoupling f s).line = s.line ∧
    (takeSelfCoupling f s).memory = s.memory ∧ (takeSelfCoupling f s).free = s.free ∧
    (takeSelfCoupling f s).pending = s.pending := by
  unfold takeSelfCoupling
  try dsimp only
  (repeat' split) <;> simp

@[simp] theorem takeResult_frame (r : ProbeResult) :
    (takeResult s r).phase = s.phase ∧ (takeResult s r).straps = s.straps ∧
    (takeResult s r).prescaler = s.prescaler ∧ (takeResult s r).round = s.round ∧
    (takeResult s r).sense = s.sense ∧ (takeResult s r).light = s.light ∧ (takeResult s r).climate = s.climate ∧
    (takeResult s r).free = s.free ∧ (takeResult s r).pending = s.pending := by
  unfold takeResult
  try dsimp only
  (repeat' split) <;> simp

@[simp] theorem takeResults_frame (r : List ProbeResult) :
    (takeResults r s).phase = s.phase ∧ (takeResults r s).straps = s.straps ∧
    (takeResults r s).prescaler = s.prescaler ∧ (takeResults r s).round = s.round ∧
    (takeResults r s).sense = s.sense ∧ (takeResults r s).light = s.light ∧ (takeResults r s).climate = s.climate ∧
    (takeResults r s).free = s.free ∧ (takeResults r s).pending = s.pending := by
  unfold takeResults
  try dsimp only
  (repeat' split) <;>
    simp [foldl_view State.phase takeResult (by simp), foldl_view State.straps takeResult (by simp),
      foldl_view State.prescaler takeResult (by simp), foldl_view State.round takeResult (by simp), foldl_view
      State.sense takeResult (by simp), foldl_view State.light takeResult (by simp), foldl_view State.climate
      takeResult (by simp), foldl_view State.free takeResult (by simp), foldl_view State.pending takeResult
      (by simp)]

@[simp] theorem composeTally_frame (r : List ProbeResult) :
    (composeTally r s).phase = s.phase ∧ (composeTally r s).straps = s.straps ∧
    (composeTally r s).prescaler = s.prescaler ∧ (composeTally r s).round = s.round ∧
    (composeTally r s).sense = s.sense ∧ (composeTally r s).sched = s.sched ∧ (composeTally r s).table = s.table ∧
    (composeTally r s).election = s.election ∧ (composeTally r s).zone = s.zone ∧
    (composeTally r s).light = s.light ∧ (composeTally r s).climate = s.climate ∧
    (composeTally r s).memory = s.memory ∧ (composeTally r s).free = s.free ∧ (composeTally r s).pending = s.pending := by
  unfold composeTally
  try dsimp only
  (repeat' split) <;> simp

@[simp] theorem takeTallyItem_frame (i : Station) (x : Station × Half) :
    (takeTallyItem i s x).phase = s.phase ∧ (takeTallyItem i s x).straps = s.straps ∧
    (takeTallyItem i s x).prescaler = s.prescaler ∧ (takeTallyItem i s x).round = s.round ∧
    (takeTallyItem i s x).sense = s.sense ∧ (takeTallyItem i s x).sched = s.sched ∧
    (takeTallyItem i s x).light = s.light ∧ (takeTallyItem i s x).climate = s.climate ∧
    (takeTallyItem i s x).free = s.free ∧ (takeTallyItem i s x).pending = s.pending := by
  unfold takeTallyItem
  try dsimp only
  (repeat' split) <;> simp

@[simp] theorem takeTally_frame (i : Station) (x : List (Station × Half)) :
    (takeTally i x s).phase = s.phase ∧ (takeTally i x s).straps = s.straps ∧
    (takeTally i x s).prescaler = s.prescaler ∧ (takeTally i x s).round = s.round ∧
    (takeTally i x s).sense = s.sense ∧ (takeTally i x s).sched = s.sched ∧ (takeTally i x s).light = s.light ∧
    (takeTally i x s).climate = s.climate ∧ (takeTally i x s).free = s.free ∧ (takeTally i x s).pending = s.pending := by
  unfold takeTally
  try dsimp only
  (repeat' split) <;>
    simp [foldl_view State.phase (takeTallyItem i) (by simp), foldl_view State.straps (takeTallyItem i) (by
      simp), foldl_view State.prescaler (takeTallyItem i) (by simp), foldl_view State.round (takeTallyItem i)
      (by simp), foldl_view State.sense (takeTallyItem i) (by simp), foldl_view State.sched (takeTallyItem i)
      (by simp), foldl_view State.light (takeTallyItem i) (by simp), foldl_view State.climate (takeTallyItem
      i) (by simp), foldl_view State.free (takeTallyItem i) (by simp), foldl_view State.pending (takeTallyItem
      i) (by simp)]

@[simp] theorem ageOutEntry_frame (i : Nat) :
    (ageOutEntry s i).phase = s.phase ∧ (ageOutEntry s i).straps = s.straps ∧
    (ageOutEntry s i).prescaler = s.prescaler ∧ (ageOutEntry s i).round = s.round ∧
    (ageOutEntry s i).sense = s.sense ∧ (ageOutEntry s i).sched = s.sched ∧ (ageOutEntry s i).light = s.light ∧
    (ageOutEntry s i).climate = s.climate ∧ (ageOutEntry s i).free = s.free ∧ (ageOutEntry s i).pending = s.pending := by
  unfold ageOutEntry
  try dsimp only
  (repeat' split) <;> simp

@[simp] theorem ageTable_frame :
    (ageTable s).phase = s.phase ∧ (ageTable s).straps = s.straps ∧ (ageTable s).prescaler = s.prescaler ∧
    (ageTable s).round = s.round ∧ (ageTable s).sense = s.sense ∧ (ageTable s).sched = s.sched ∧
    (ageTable s).light = s.light ∧ (ageTable s).climate = s.climate ∧ (ageTable s).free = s.free ∧
    (ageTable s).pending = s.pending := by
  unfold ageTable
  try dsimp only
  (repeat' split) <;>
    simp [foldl_view State.phase ageOutEntry (by simp), foldl_view State.straps ageOutEntry (by simp),
      foldl_view State.prescaler ageOutEntry (by simp), foldl_view State.round ageOutEntry (by simp),
      foldl_view State.sense ageOutEntry (by simp), foldl_view State.sched ageOutEntry (by simp), foldl_view
      State.light ageOutEntry (by simp), foldl_view State.climate ageOutEntry (by simp), foldl_view State.free
      ageOutEntry (by simp), foldl_view State.pending ageOutEntry (by simp)]

@[simp] theorem storeClaim_frame (i : Station) (c : Claim) :
    (storeClaim i c s).phase = s.phase ∧ (storeClaim i c s).straps = s.straps ∧
    (storeClaim i c s).prescaler = s.prescaler ∧ (storeClaim i c s).rng = s.rng ∧
    (storeClaim i c s).round = s.round ∧ (storeClaim i c s).sense = s.sense ∧ (storeClaim i c s).sched = s.sched ∧
    (storeClaim i c s).election = s.election ∧ (storeClaim i c s).zone = s.zone ∧
    (storeClaim i c s).light = s.light ∧ (storeClaim i c s).climate = s.climate ∧
    (storeClaim i c s).line = s.line ∧ (storeClaim i c s).memory = s.memory ∧ (storeClaim i c s).free = s.free ∧
    (storeClaim i c s).pending = s.pending := by
  unfold storeClaim
  try dsimp only
  (repeat' split) <;> simp

@[simp] theorem takeClaim_frame (i : Station) (c : Claim) (v : Option (Half × Byte)) :
    (takeClaim i c v s).phase = s.phase ∧ (takeClaim i c v s).straps = s.straps ∧
    (takeClaim i c v s).prescaler = s.prescaler ∧ (takeClaim i c v s).round = s.round ∧
    (takeClaim i c v s).sense = s.sense ∧ (takeClaim i c v s).sched = s.sched ∧
    (takeClaim i c v s).light = s.light ∧ (takeClaim i c v s).climate = s.climate ∧
    (takeClaim i c v s).memory = s.memory ∧ (takeClaim i c v s).free = s.free ∧
    (takeClaim i c v s).pending = s.pending := by
  unfold takeClaim
  try dsimp only
  (repeat' split) <;> simp

@[simp] theorem clearEntry_frame (i : Nat) :
    (clearEntry s i).phase = s.phase ∧ (clearEntry s i).straps = s.straps ∧
    (clearEntry s i).prescaler = s.prescaler ∧ (clearEntry s i).round = s.round ∧
    (clearEntry s i).sense = s.sense ∧ (clearEntry s i).sched = s.sched ∧ (clearEntry s i).light = s.light ∧
    (clearEntry s i).climate = s.climate ∧ (clearEntry s i).memory = s.memory ∧ (clearEntry s i).free = s.free ∧
    (clearEntry s i).pending = s.pending := by
  unfold clearEntry
  try dsimp only
  (repeat' split) <;> simp

@[simp] theorem emptyTable_frame :
    (emptyTable s).phase = s.phase ∧ (emptyTable s).straps = s.straps ∧ (emptyTable s).prescaler = s.prescaler ∧
    (emptyTable s).round = s.round ∧ (emptyTable s).sense = s.sense ∧ (emptyTable s).sched = s.sched ∧
    (emptyTable s).light = s.light ∧ (emptyTable s).climate = s.climate ∧ (emptyTable s).memory = s.memory ∧
    (emptyTable s).free = s.free ∧ (emptyTable s).pending = s.pending := by
  unfold emptyTable
  try dsimp only
  simp [foldl_view State.phase clearEntry (by simp), foldl_view State.straps clearEntry (by simp),
      foldl_view State.prescaler clearEntry (by simp), foldl_view State.round clearEntry (by simp), foldl_view
      State.sense clearEntry (by simp), foldl_view State.sched clearEntry (by simp), foldl_view State.light
      clearEntry (by simp), foldl_view State.climate clearEntry (by simp), foldl_view State.memory clearEntry
      (by simp), foldl_view State.free clearEntry (by simp), foldl_view State.pending clearEntry (by simp)]

/-! ### Sense Unit and Round Controller -/

@[simp] theorem requestBurst_frame :
    (requestBurst s).phase = s.phase ∧ (requestBurst s).straps = s.straps ∧
    (requestBurst s).prescaler = s.prescaler ∧ (requestBurst s).rng = s.rng ∧ (requestBurst s).round = s.round ∧
    (requestBurst s).sched = s.sched ∧ (requestBurst s).table = s.table ∧ (requestBurst s).election = s.election ∧
    (requestBurst s).zone = s.zone ∧ (requestBurst s).light = s.light ∧ (requestBurst s).climate = s.climate ∧
    (requestBurst s).line = s.line ∧ (requestBurst s).memory = s.memory ∧ (requestBurst s).free = s.free ∧
    (requestBurst s).pending = s.pending := by
  unfold requestBurst
  try dsimp only
  (repeat' split) <;> simp

@[simp] theorem resumeBurst_frame :
    (resumeBurst s).phase = s.phase ∧ (resumeBurst s).straps = s.straps ∧ (resumeBurst s).prescaler = s.prescaler ∧
    (resumeBurst s).rng = s.rng ∧ (resumeBurst s).round = s.round ∧ (resumeBurst s).sched = s.sched ∧
    (resumeBurst s).table = s.table ∧ (resumeBurst s).election = s.election ∧ (resumeBurst s).zone = s.zone ∧
    (resumeBurst s).light = s.light ∧ (resumeBurst s).climate = s.climate ∧ (resumeBurst s).line = s.line ∧
    (resumeBurst s).memory = s.memory ∧ (resumeBurst s).free = s.free ∧ (resumeBurst s).pending = s.pending := by
  unfold resumeBurst
  try dsimp only
  simp

@[simp] theorem abandonRound_frame :
    (abandonRound s).phase = s.phase ∧ (abandonRound s).straps = s.straps ∧
    (abandonRound s).prescaler = s.prescaler ∧ (abandonRound s).rng = s.rng ∧ (abandonRound s).round = s.round ∧
    (abandonRound s).sched = s.sched ∧ (abandonRound s).table = s.table ∧ (abandonRound s).election = s.election ∧
    (abandonRound s).zone = s.zone ∧ (abandonRound s).light = s.light ∧ (abandonRound s).climate = s.climate ∧
    (abandonRound s).line = s.line ∧ (abandonRound s).memory = s.memory ∧ (abandonRound s).free = s.free ∧
    (abandonRound s).pending = s.pending := by
  unfold abandonRound
  try dsimp only
  (repeat' split) <;> simp

@[simp] theorem markDisordered_frame :
    (markDisordered s).phase = s.phase ∧ (markDisordered s).straps = s.straps ∧
    (markDisordered s).prescaler = s.prescaler ∧ (markDisordered s).rng = s.rng ∧
    (markDisordered s).sense = s.sense ∧ (markDisordered s).sched = s.sched ∧ (markDisordered s).table = s.table ∧
    (markDisordered s).election = s.election ∧ (markDisordered s).zone = s.zone ∧
    (markDisordered s).light = s.light ∧ (markDisordered s).climate = s.climate ∧
    (markDisordered s).memory = s.memory ∧ (markDisordered s).free = s.free ∧ (markDisordered s).pending = s.pending := by
  unfold markDisordered
  try dsimp only
  (repeat' split) <;> simp

@[simp] theorem takeCall_frame (i : Station) (d : Nat) :
    (takeCall i d s).phase = s.phase ∧ (takeCall i d s).straps = s.straps ∧
    (takeCall i d s).prescaler = s.prescaler ∧ (takeCall i d s).rng = s.rng ∧ (takeCall i d s).table = s.table ∧
    (takeCall i d s).election = s.election ∧ (takeCall i d s).zone = s.zone ∧ (takeCall i d s).light = s.light ∧
    (takeCall i d s).climate = s.climate ∧ (takeCall i d s).memory = s.memory ∧ (takeCall i d s).free = s.free ∧
    (takeCall i d s).pending = s.pending := by
  unfold takeCall
  try dsimp only
  (repeat' split) <;> simp

@[simp] theorem takeJoin_frame (i : Station) (d p : Nat) :
    (takeJoin i d p s).phase = s.phase ∧ (takeJoin i d p s).straps = s.straps ∧
    (takeJoin i d p s).prescaler = s.prescaler ∧ (takeJoin i d p s).rng = s.rng ∧
    (takeJoin i d p s).sense = s.sense ∧ (takeJoin i d p s).table = s.table ∧
    (takeJoin i d p s).election = s.election ∧ (takeJoin i d p s).zone = s.zone ∧
    (takeJoin i d p s).light = s.light ∧ (takeJoin i d p s).climate = s.climate ∧
    (takeJoin i d p s).memory = s.memory ∧ (takeJoin i d p s).free = s.free ∧ (takeJoin i d p s).pending = s.pending := by
  unfold takeJoin
  try dsimp only
  (repeat' split) <;> simp

@[simp] theorem loadChip_frame (j : Nat) :
    (loadChip j s).phase = s.phase ∧ (loadChip j s).straps = s.straps ∧ (loadChip j s).prescaler = s.prescaler ∧
    (loadChip j s).rng = s.rng ∧ (loadChip j s).round = s.round ∧ (loadChip j s).sense = s.sense ∧
    (loadChip j s).sched = s.sched ∧ (loadChip j s).table = s.table ∧ (loadChip j s).election = s.election ∧
    (loadChip j s).zone = s.zone ∧ (loadChip j s).climate = s.climate ∧ (loadChip j s).line = s.line ∧
    (loadChip j s).memory = s.memory ∧ (loadChip j s).free = s.free ∧ (loadChip j s).pending = s.pending := by
  unfold loadChip
  try dsimp only
  (repeat' split) <;> simp

@[simp] theorem deliverResults_frame :
    (deliverResults s).phase = s.phase ∧ (deliverResults s).straps = s.straps ∧
    (deliverResults s).prescaler = s.prescaler ∧ (deliverResults s).round = s.round ∧
    (deliverResults s).light = s.light ∧ (deliverResults s).climate = s.climate ∧
    (deliverResults s).free = s.free ∧ (deliverResults s).pending = s.pending := by
  unfold deliverResults
  try dsimp only
  (repeat' split) <;> simp

@[simp] theorem closeView_frame :
    (closeView s).phase = s.phase ∧ (closeView s).straps = s.straps ∧ (closeView s).prescaler = s.prescaler ∧
    (closeView s).rng = s.rng ∧ (closeView s).sense = s.sense ∧ (closeView s).sched = s.sched ∧
    (closeView s).table = s.table ∧ (closeView s).election = s.election ∧ (closeView s).zone = s.zone ∧
    (closeView s).light = s.light ∧ (closeView s).climate = s.climate ∧ (closeView s).line = s.line ∧
    (closeView s).memory = s.memory ∧ (closeView s).free = s.free ∧ (closeView s).pending = s.pending := by
  unfold closeView
  try dsimp only
  simp

/-! ### Service notices -/

@[simp] theorem takeAsk_frame (i : Station) (p : Byte) :
    (takeAsk i p s).phase = s.phase ∧ (takeAsk i p s).straps = s.straps ∧ (takeAsk i p s).prescaler = s.prescaler ∧
    (takeAsk i p s).round = s.round ∧ (takeAsk i p s).sense = s.sense ∧ (takeAsk i p s).sched = s.sched ∧
    (takeAsk i p s).table = s.table ∧ (takeAsk i p s).election = s.election ∧ (takeAsk i p s).zone = s.zone ∧
    (takeAsk i p s).light = s.light ∧ (takeAsk i p s).climate = s.climate ∧ (takeAsk i p s).memory = s.memory ∧
    (takeAsk i p s).free = s.free ∧ (takeAsk i p s).pending = s.pending := by
  unfold takeAsk
  try dsimp only
  (repeat' split) <;> simp

@[simp] theorem setItem_frame (i : Nat) (v : Int) :
    (setItem i v s).phase = s.phase ∧ (setItem i v s).straps = s.straps ∧ (setItem i v s).prescaler = s.prescaler ∧
    (setItem i v s).rng = s.rng ∧ (setItem i v s).round = s.round ∧ (setItem i v s).sense = s.sense ∧
    (setItem i v s).sched = s.sched ∧ (setItem i v s).table = s.table ∧ (setItem i v s).election = s.election ∧
    (setItem i v s).zone = s.zone ∧ (setItem i v s).line = s.line ∧ (setItem i v s).memory = s.memory ∧
    (setItem i v s).free = s.free ∧ (setItem i v s).pending = s.pending := by
  unfold setItem
  try dsimp only
  (repeat' split) <;> simp

@[simp] theorem takeSet_frame (i : Station) (x : Byte) (v : Half) :
    (takeSet i x v s).phase = s.phase ∧ (takeSet i x v s).straps = s.straps ∧
    (takeSet i x v s).prescaler = s.prescaler ∧ (takeSet i x v s).rng = s.rng ∧ (takeSet i x v s).round = s.round ∧
    (takeSet i x v s).sense = s.sense ∧ (takeSet i x v s).sched = s.sched ∧ (takeSet i x v s).table = s.table ∧
    (takeSet i x v s).election = s.election ∧ (takeSet i x v s).zone = s.zone ∧ (takeSet i x v s).line = s.line ∧
    (takeSet i x v s).free = s.free ∧ (takeSet i x v s).pending = s.pending := by
  unfold takeSet
  try dsimp only
  (repeat' split) <;> simp

@[simp] theorem takeSurvey_frame (m : Byte) :
    (takeSurvey m s).phase = s.phase ∧ (takeSurvey m s).straps = s.straps ∧
    (takeSurvey m s).prescaler = s.prescaler ∧ (takeSurvey m s).round = s.round ∧
    (takeSurvey m s).sense = s.sense ∧ (takeSurvey m s).table = s.table ∧ (takeSurvey m s).election = s.election ∧
    (takeSurvey m s).zone = s.zone ∧ (takeSurvey m s).light = s.light ∧ (takeSurvey m s).climate = s.climate ∧
    (takeSurvey m s).line = s.line ∧ (takeSurvey m s).memory = s.memory ∧ (takeSurvey m s).free = s.free ∧
    (takeSurvey m s).pending = s.pending := by
  unfold takeSurvey
  try dsimp only
  simp

@[simp] theorem takeStir_frame (i : Station) :
    (takeStir i s).phase = s.phase ∧ (takeStir i s).straps = s.straps ∧ (takeStir i s).prescaler = s.prescaler ∧
    (takeStir i s).round = s.round ∧ (takeStir i s).sense = s.sense ∧ (takeStir i s).table = s.table ∧
    (takeStir i s).election = s.election ∧ (takeStir i s).zone = s.zone ∧ (takeStir i s).light = s.light ∧
    (takeStir i s).climate = s.climate ∧ (takeStir i s).line = s.line ∧ (takeStir i s).memory = s.memory ∧
    (takeStir i s).free = s.free ∧ (takeStir i s).pending = s.pending := by
  unfold takeStir
  try dsimp only
  (repeat' split) <;> simp

@[simp] theorem forgetZone_frame :
    (forgetZone s).phase = s.phase ∧ (forgetZone s).straps = s.straps ∧ (forgetZone s).prescaler = s.prescaler ∧
    (forgetZone s).round = s.round ∧ (forgetZone s).sense = s.sense ∧ (forgetZone s).sched = s.sched ∧
    (forgetZone s).table = s.table ∧ (forgetZone s).election = s.election ∧ (forgetZone s).light = s.light ∧
    (forgetZone s).free = s.free ∧ (forgetZone s).pending = s.pending := by
  unfold forgetZone
  try dsimp only
  (repeat' split) <;> simp

@[simp] theorem forgetRecord_frame :
    (forgetRecord s).phase = s.phase ∧ (forgetRecord s).straps = s.straps ∧
    (forgetRecord s).prescaler = s.prescaler ∧ (forgetRecord s).rng = s.rng ∧ (forgetRecord s).round = s.round ∧
    (forgetRecord s).sense = s.sense ∧ (forgetRecord s).sched = s.sched ∧ (forgetRecord s).table = s.table ∧
    (forgetRecord s).election = s.election ∧ (forgetRecord s).zone = s.zone ∧ (forgetRecord s).light = s.light ∧
    (forgetRecord s).climate = s.climate ∧ (forgetRecord s).line = s.line ∧ (forgetRecord s).free = s.free ∧
    (forgetRecord s).pending = s.pending := by
  unfold forgetRecord
  try dsimp only
  (repeat' split) <;> simp

@[simp] theorem takeForget_frame (i : Station) :
    (takeForget i s).phase = s.phase ∧ (takeForget i s).straps = s.straps ∧
    (takeForget i s).prescaler = s.prescaler ∧ (takeForget i s).round = s.round ∧
    (takeForget i s).sense = s.sense ∧ (takeForget i s).light = s.light ∧ (takeForget i s).pending = s.pending := by
  unfold takeForget
  try dsimp only
  (repeat' split) <;>
    simp [anyOrder_view State.phase emptyTable forgetZone (enterBrisk (seconds 600)) (by simp) (by simp) (by
      simp) (by simp), anyOrder_view State.straps emptyTable forgetZone (enterBrisk (seconds 600)) (by simp)
      (by simp) (by simp) (by simp), anyOrder_view State.prescaler emptyTable forgetZone (enterBrisk (seconds
      600)) (by simp) (by simp) (by simp) (by simp), anyOrder_view State.round emptyTable forgetZone
      (enterBrisk (seconds 600)) (by simp) (by simp) (by simp) (by simp), anyOrder_view State.sense emptyTable
      forgetZone (enterBrisk (seconds 600)) (by simp) (by simp) (by simp) (by simp), anyOrder_view State.light
      emptyTable forgetZone (enterBrisk (seconds 600)) (by simp) (by simp) (by simp) (by simp), anyOrder_view
      State.pending emptyTable forgetZone (enterBrisk (seconds 600)) (by simp) (by simp) (by simp) (by simp)]

/-! ### Notices and the line -/

@[simp] theorem deliver_frame (n : Notice) :
    (deliver n s).phase = s.phase ∧ (deliver n s).straps = s.straps ∧ (deliver n s).prescaler = s.prescaler ∧
    (deliver n s).pending = s.pending := by
  unfold deliver
  try dsimp only
  (repeat' split) <;> simp

@[simp] theorem lineIdleThree_frame :
    (lineIdleThree s).phase = s.phase ∧ (lineIdleThree s).straps = s.straps ∧
    (lineIdleThree s).prescaler = s.prescaler ∧ (lineIdleThree s).rng = s.rng ∧ (lineIdleThree s).round = s.round ∧
    (lineIdleThree s).sense = s.sense ∧ (lineIdleThree s).sched = s.sched ∧ (lineIdleThree s).table = s.table ∧
    (lineIdleThree s).election = s.election ∧ (lineIdleThree s).zone = s.zone ∧ (lineIdleThree s).light = s.light ∧
    (lineIdleThree s).climate = s.climate ∧ (lineIdleThree s).memory = s.memory ∧ (lineIdleThree s).free = s.free ∧
    (lineIdleThree s).pending = s.pending := by
  unfold lineIdleThree
  try dsimp only
  (repeat' split) <;> simp

@[simp] theorem lineIdleFour_frame :
    (lineIdleFour s).phase = s.phase ∧ (lineIdleFour s).straps = s.straps ∧
    (lineIdleFour s).prescaler = s.prescaler ∧ (lineIdleFour s).rng = s.rng ∧ (lineIdleFour s).round = s.round ∧
    (lineIdleFour s).sense = s.sense ∧ (lineIdleFour s).sched = s.sched ∧ (lineIdleFour s).table = s.table ∧
    (lineIdleFour s).election = s.election ∧ (lineIdleFour s).zone = s.zone ∧ (lineIdleFour s).light = s.light ∧
    (lineIdleFour s).climate = s.climate ∧ (lineIdleFour s).memory = s.memory ∧ (lineIdleFour s).free = s.free ∧
    (lineIdleFour s).pending = s.pending := by
  unfold lineIdleFour
  try dsimp only
  (repeat' split) <;> simp

@[simp] theorem applyVerdict_frame (v : Verdict) :
    (applyVerdict v s).phase = s.phase ∧ (applyVerdict v s).straps = s.straps ∧
    (applyVerdict v s).prescaler = s.prescaler ∧ (applyVerdict v s).pending = s.pending := by
  unfold applyVerdict
  try dsimp only
  (repeat' split) <;> simp

@[simp] theorem receive_frame (n : Notice) :
    (receive n s).phase = s.phase ∧ (receive n s).straps = s.straps ∧ (receive n s).prescaler = s.prescaler ∧
    (receive n s).pending = s.pending := by
  unfold receive
  try dsimp only
  (repeat' split) <;> simp

@[simp] theorem receiveBytes_frame (raw : Collected) :
    (receiveBytes raw s).phase = s.phase ∧ (receiveBytes raw s).straps = s.straps ∧
    (receiveBytes raw s).prescaler = s.prescaler ∧ (receiveBytes raw s).pending = s.pending := by
  unfold receiveBytes
  try dsimp only
  (repeat' split) <;> simp

@[simp] theorem startSending_frame (e a : Nat) (b : Body) :
    (startSending e a b s).phase = s.phase ∧ (startSending e a b s).straps = s.straps ∧
    (startSending e a b s).prescaler = s.prescaler ∧ (startSending e a b s).rng = s.rng ∧
    (startSending e a b s).round = s.round ∧ (startSending e a b s).sense = s.sense ∧
    (startSending e a b s).sched = s.sched ∧ (startSending e a b s).table = s.table ∧
    (startSending e a b s).election = s.election ∧ (startSending e a b s).zone = s.zone ∧
    (startSending e a b s).light = s.light ∧ (startSending e a b s).climate = s.climate ∧
    (startSending e a b s).memory = s.memory ∧ (startSending e a b s).free = s.free ∧
    (startSending e a b s).pending = s.pending := by
  unfold startSending
  try dsimp only
  simp

@[simp] theorem withdrawHead_frame :
    (withdrawHead s).phase = s.phase ∧ (withdrawHead s).straps = s.straps ∧
    (withdrawHead s).prescaler = s.prescaler ∧ (withdrawHead s).round = s.round ∧
    (withdrawHead s).sense = s.sense ∧ (withdrawHead s).sched = s.sched ∧ (withdrawHead s).table = s.table ∧
    (withdrawHead s).election = s.election ∧ (withdrawHead s).zone = s.zone ∧ (withdrawHead s).light = s.light ∧
    (withdrawHead s).climate = s.climate ∧ (withdrawHead s).memory = s.memory ∧ (withdrawHead s).free = s.free ∧
    (withdrawHead s).pending = s.pending := by
  unfold withdrawHead
  try dsimp only
  simp

@[simp] theorem winLine_frame (e a : Nat) (r : Request) :
    (winLine e a r s).phase = s.phase ∧ (winLine e a r s).straps = s.straps ∧
    (winLine e a r s).prescaler = s.prescaler ∧ (winLine e a r s).round = s.round ∧
    (winLine e a r s).sense = s.sense ∧ (winLine e a r s).table = s.table ∧
    (winLine e a r s).election = s.election ∧ (winLine e a r s).zone = s.zone ∧ (winLine e a r s).light = s.light ∧
    (winLine e a r s).climate = s.climate ∧ (winLine e a r s).memory = s.memory ∧ (winLine e a r s).free = s.free ∧
    (winLine e a r s).pending = s.pending := by
  unfold winLine
  try dsimp only
  (repeat' split) <;> simp

@[simp] theorem dropRequest_frame (r : Request) :
    (dropRequest r s).phase = s.phase ∧ (dropRequest r s).straps = s.straps ∧
    (dropRequest r s).prescaler = s.prescaler ∧ (dropRequest r s).round = s.round ∧
    (dropRequest r s).sense = s.sense ∧ (dropRequest r s).table = s.table ∧
    (dropRequest r s).election = s.election ∧ (dropRequest r s).zone = s.zone ∧ (dropRequest r s).light = s.light ∧
    (dropRequest r s).climate = s.climate ∧ (dropRequest r s).memory = s.memory ∧ (dropRequest r s).free = s.free ∧
    (dropRequest r s).pending = s.pending := by
  unfold dropRequest
  try dsimp only
  (repeat' split) <;> simp

@[simp] theorem loseAttempt_frame (e a : Nat) (r : Request) :
    (loseAttempt e a r s).phase = s.phase ∧ (loseAttempt e a r s).straps = s.straps ∧
    (loseAttempt e a r s).prescaler = s.prescaler ∧ (loseAttempt e a r s).round = s.round ∧
    (loseAttempt e a r s).sense = s.sense ∧ (loseAttempt e a r s).table = s.table ∧
    (loseAttempt e a r s).election = s.election ∧ (loseAttempt e a r s).zone = s.zone ∧
    (loseAttempt e a r s).light = s.light ∧ (loseAttempt e a r s).climate = s.climate ∧
    (loseAttempt e a r s).memory = s.memory ∧ (loseAttempt e a r s).free = s.free ∧
    (loseAttempt e a r s).pending = s.pending := by
  unfold loseAttempt
  try dsimp only
  (repeat' split) <;> simp

@[simp] theorem reportCompletion_frame (n : Notice) :
    (reportCompletion n s).phase = s.phase ∧ (reportCompletion n s).straps = s.straps ∧
    (reportCompletion n s).prescaler = s.prescaler ∧ (reportCompletion n s).rng = s.rng ∧
    (reportCompletion n s).round = s.round ∧ (reportCompletion n s).sense = s.sense ∧
    (reportCompletion n s).sched = s.sched ∧ (reportCompletion n s).table = s.table ∧
    (reportCompletion n s).zone = s.zone ∧ (reportCompletion n s).climate = s.climate ∧
    (reportCompletion n s).line = s.line ∧ (reportCompletion n s).memory = s.memory ∧
    (reportCompletion n s).free = s.free ∧ (reportCompletion n s).pending = s.pending := by
  unfold reportCompletion
  try dsimp only
  (repeat' split) <;> simp

@[simp] theorem completeNotice_frame (n : Notice) (r : Request) :
    (completeNotice n r s).phase = s.phase ∧ (completeNotice n r s).straps = s.straps ∧
    (completeNotice n r s).prescaler = s.prescaler ∧ (completeNotice n r s).pending = s.pending := by
  unfold completeNotice
  try dsimp only
  (repeat' split) <;> simp

@[simp] theorem pauseBackoff_frame :
    (pauseBackoff s).phase = s.phase ∧ (pauseBackoff s).straps = s.straps ∧
    (pauseBackoff s).prescaler = s.prescaler ∧ (pauseBackoff s).rng = s.rng ∧ (pauseBackoff s).round = s.round ∧
    (pauseBackoff s).sense = s.sense ∧ (pauseBackoff s).sched = s.sched ∧ (pauseBackoff s).table = s.table ∧
    (pauseBackoff s).election = s.election ∧ (pauseBackoff s).zone = s.zone ∧ (pauseBackoff s).light = s.light ∧
    (pauseBackoff s).climate = s.climate ∧ (pauseBackoff s).memory = s.memory ∧ (pauseBackoff s).free = s.free ∧
    (pauseBackoff s).pending = s.pending := by
  unfold pauseBackoff
  try dsimp only
  (repeat' split) <;> simp

@[simp] theorem resumeBackoff_frame :
    (resumeBackoff s).phase = s.phase ∧ (resumeBackoff s).straps = s.straps ∧
    (resumeBackoff s).prescaler = s.prescaler ∧ (resumeBackoff s).round = s.round ∧
    (resumeBackoff s).sense = s.sense ∧ (resumeBackoff s).sched = s.sched ∧ (resumeBackoff s).table = s.table ∧
    (resumeBackoff s).election = s.election ∧ (resumeBackoff s).zone = s.zone ∧ (resumeBackoff s).light = s.light ∧
    (resumeBackoff s).climate = s.climate ∧ (resumeBackoff s).memory = s.memory ∧ (resumeBackoff s).free = s.free ∧
    (resumeBackoff s).pending = s.pending := by
  unfold resumeBackoff
  try dsimp only
  (repeat' split) <;> simp

end Sys2Proof.Machine
end

