-- ==== Sys2Proof/Laws/Memory.lean ====
section
/-! SUPPORT. The nonvolatile memory: read after write, and the canonical form kept by every memory operation (R183). -/

namespace Sys2Proof.Machine

/-! ### Read after write -/

/-- A byte written reads as written, and every other byte as before. -/
theorem Memory.read_write (m : Memory) (a b : Nat) (v : Byte) (hm : m.wf = true) :
    (m.write a v).read b = if b = a then v else m.read b := by
  induction m with
  | nil =>
    unfold Memory.write
    split <;> by_cases hb : b = a <;> simp_all [Memory.read]
  | cons c rest ih =>
    obtain ⟨x, y⟩ := c
    simp only [Memory.wf, Bool.and_eq_true, List.all_eq_true, decide_eq_true_eq] at hm
    obtain ⟨⟨⟨-, -⟩, hlt⟩, hrest⟩ := hm
    have absent : ∀ z, z ≤ x → Memory.read rest z = erasedByte := by
      intro z hz
      have : ∀ l : Memory, (∀ c ∈ l, x < c.1) → Memory.read l z = erasedByte := by
        intro l
        induction l with
        | nil => intro _; rfl
        | cons d r ihr =>
          intro hl
          have hd := hl d (by simp)
          have : z ≠ d.1 := by omega
          simp only [Memory.read, this, if_false]
          exact ihr (fun c hc => hl c (by simp [hc]))
      exact this rest hlt
    unfold Memory.write
    split
    · rename_i hax
      split
      · rename_i hv
        by_cases hb : b = a
        · subst hb; subst hv
          simp [Memory.read, show b ≠ x by omega, absent b (by omega)]
        · simp [hb]
      · by_cases hb : b = a <;> simp [Memory.read, hb]
    · rename_i hax
      split
      · rename_i hax2
        subst hax2
        split
        · rename_i hv
          subst hv
          by_cases hb : b = a
          · subst hb; simp [absent b (by omega)]
          · simp [Memory.read, hb]
        · by_cases hb : b = a <;> simp [Memory.read, hb]
      · rename_i hne
        by_cases hbx : b = x
        · subst hbx
          simp [Memory.read, show b ≠ a by omega]
        · simp [Memory.read, hbx, ih hrest]

/-- A byte written leaves every other byte, in any list of cells. -/
theorem Memory.read_write_other (m : Memory) (a b : Nat) (v : Byte) (h : b ≠ a) : (m.write a v).read b = m.read b := by
  induction m with
  | nil => unfold Memory.write; split <;> simp [Memory.read, h]
  | cons c rest ih =>
    obtain ⟨x, y⟩ := c
    unfold Memory.write
    split
    · split <;> simp [Memory.read, h]
    · split
      · rename_i hax; subst hax
        split <;> simp [Memory.read, h]
      · by_cases hbx : b = x <;> simp [Memory.read, hbx, ih]

/-- An address that a written list holds was held before or is the one written. -/
theorem Memory.mem_write {m : Memory} {a : Nat} {v : Byte} {c : Host.Cell} (h : c ∈ m.write a v) : c.1 = a ∨ c ∈ m := by
  induction m with
  | nil =>
    unfold Memory.write at h
    split at h
    · cases h
    · exact .inl (by simpa using congrArg Prod.fst (List.mem_singleton.1 h))
  | cons d rest ih =>
    obtain ⟨x, y⟩ := d
    unfold Memory.write at h
    split at h
    · split at h
      · exact .inr h
      · rcases List.mem_cons.1 h with rfl | h
        · exact .inl rfl
        · exact .inr h
    · split at h
      · split at h
        · exact .inr (List.mem_cons_of_mem _ h)
        · rcases List.mem_cons.1 h with rfl | h
          · exact .inl rfl
          · exact .inr (List.mem_cons_of_mem _ h)
      · rcases List.mem_cons.1 h with rfl | h
        · exact .inr (by simp)
        · rcases ih h with h | h
          · exact .inl h
          · exact .inr (List.mem_cons_of_mem _ h)

/-! ### The canonical form -/

/-- A write keeps the canonical form. -/
theorem Memory.wf_write {m : Memory} {a : Nat} {v : Byte} (hm : m.wf = true) (ha : a < 256) : (m.write a v).wf = true := by
  induction m with
  | nil => unfold Memory.write; split <;> simp_all [Memory.wf]
  | cons c rest ih =>
    obtain ⟨x, y⟩ := c
    have hm' := hm
    simp only [Memory.wf, Bool.and_eq_true, List.all_eq_true, decide_eq_true_eq] at hm'
    obtain ⟨⟨⟨hx, hy⟩, hlt⟩, hrest⟩ := hm'
    unfold Memory.write
    split
    · rename_i hax
      split
      · exact hm
      · rename_i hv
        simp only [Memory.wf, Bool.and_eq_true, List.all_eq_true, decide_eq_true_eq, List.mem_cons]
        refine ⟨⟨⟨ha, hv⟩, ?_⟩, ⟨⟨hx, hy⟩, hlt⟩, hrest⟩
        rintro d (rfl | hd)
        · exact hax
        · exact Nat.lt_trans hax (hlt d hd)
    · split
      · split
        · exact hrest
        · rename_i hax hv
          subst hax
          simp only [Memory.wf, Bool.and_eq_true, List.all_eq_true, decide_eq_true_eq]
          exact ⟨⟨⟨ha, hv⟩, hlt⟩, hrest⟩
      · simp only [Memory.wf, Bool.and_eq_true, List.all_eq_true, decide_eq_true_eq]
        refine ⟨⟨⟨hx, hy⟩, ?_⟩, ih hrest⟩
        intro d hd
        rcases Memory.mem_write hd with h | h
        · omega
        · exact hlt d h

/-- Cells left out keep the canonical form. -/
theorem Memory.wf_filter (m : Memory) (p : Host.Cell → Bool) (hm : m.wf = true) : Memory.wf (m.filter p) = true := by
  induction m with
  | nil => rfl
  | cons c rest ih =>
    obtain ⟨x, y⟩ := c
    simp only [Memory.wf, Bool.and_eq_true, List.all_eq_true, decide_eq_true_eq] at hm
    obtain ⟨⟨⟨hx, hy⟩, hlt⟩, hrest⟩ := hm
    by_cases hp : p (x, y) = true
    · simp only [List.filter_cons, hp, if_true, Memory.wf, Bool.and_eq_true, List.all_eq_true, decide_eq_true_eq]
      exact ⟨⟨⟨hx, hy⟩, fun d hd => hlt d (List.mem_filter.1 hd).1⟩, ih hrest⟩
    · simp only [List.filter_cons, hp]
      exact ih hrest

/-- Erasing a page keeps the canonical form. -/
theorem Memory.wf_erasePage {m : Memory} (page : Nat) (hm : m.wf = true) : (m.erasePage page).wf = true := by
  unfold Memory.erasePage
  split
  · exact hm
  · exact Memory.wf_filter m _ hm

/-- Programming a byte keeps the canonical form. -/
theorem Memory.wf_program {m : Memory} (a : Nat) (v : Byte) (hm : m.wf = true) : (m.program a v).wf = true := by
  unfold Memory.program
  split
  · exact hm
  · exact Memory.wf_write hm (by omega)

/-- Programming bytes keeps the canonical form. -/
theorem Memory.wf_programAll {m : Memory} (a : Nat) (vs : List Byte) (hm : m.wf = true) :
    (m.programAll a vs).wf = true := by
  induction vs generalizing m a with
  | nil => exact hm
  | cons v rest ih => exact ih (a + 1) (Memory.wf_program a v hm)

/-- Programming bytes from the highest down keeps the canonical form. -/
theorem Memory.wf_programDown {m : Memory} (a : Nat) (vs : List Byte) (hm : m.wf = true) :
    (m.programDown a vs).wf = true := by
  induction vs generalizing a with
  | nil => exact hm
  | cons v rest ih => exact Memory.wf_program a v (ih (a + 1))

/-- A fold whose every step keeps the canonical form keeps it. -/
theorem Memory.wf_foldl (f : Memory → Nat → Memory) (l : List Nat)
    (h : ∀ m, ∀ i ∈ l, Memory.wf m = true → (f m i).wf = true) (m : Memory) (hm : m.wf = true) :
    Memory.wf (l.foldl f m) = true := by
  induction l generalizing m with
  | nil => exact hm
  | cons i rest ih =>
    exact ih (fun m j hj => h m j (List.mem_cons_of_mem _ hj)) _ (h m i (by simp) hm)

/-- A cut erase of pages 0 to 3 keeps the canonical form. -/
theorem Memory.wf_cutErase {m : Memory} (page free : Nat) (hp : page ≤ 3) (hm : m.wf = true) :
    (m.cutErase page free).wf = true := by
  unfold Memory.cutErase
  split
  · exact hm
  · refine Memory.wf_foldl _ _ (fun m i hi h => Memory.wf_write h ?_) m hm
    have := List.mem_range.1 hi
    omega

/-- A cut programming keeps the canonical form. -/
theorem Memory.wf_cutProgram {m : Memory} (a : Nat) (vs : List Byte) (free : Nat) (hm : m.wf = true) :
    (m.cutProgram a vs free).wf = true :=
  Memory.wf_foldl _ _ (fun _ _ _ h => Memory.wf_program _ _ h) m hm

/-- A whole save keeps the canonical form. -/
theorem Memory.wf_writeRecord {m : Memory} (snapshot : List Byte) (hm : m.wf = true) :
    (m.writeRecord snapshot).wf = true :=
  Memory.wf_programDown _ _ (Memory.wf_programAll _ _ (Memory.wf_erasePage 3
    (Memory.wf_programAll _ _ (Memory.wf_erasePage 2 (Memory.wf_erasePage 1 hm)))))

/-- A whole clear keeps the canonical form. -/
theorem Memory.wf_clearRecord {m : Memory} (hm : m.wf = true) : m.clearRecord.wf = true :=
  Memory.wf_erasePage 3 (Memory.wf_erasePage 2 (Memory.wf_erasePage 1 hm))

/-- A save cut by a reset keeps the canonical form. -/
theorem Memory.wf_cutSave {m : Memory} (snapshot : List Byte) (elapsed free : Nat) (hm : m.wf = true) :
    (m.cutSave snapshot elapsed free).wf = true := by
  have h1 := Memory.wf_erasePage 1 hm
  have h2 := Memory.wf_erasePage 2 h1
  have h3 := Memory.wf_programAll 64 ((snapshot.drop 32).take 32) h2
  have h4 := Memory.wf_erasePage 3 h3
  have h5 := Memory.wf_programAll 96 ((snapshot.drop 64).take 28) h4
  unfold Memory.cutSave
  dsimp only
  split_ifs
  · exact hm
  · exact Memory.wf_cutErase _ _ (by omega) hm
  · exact Memory.wf_cutErase _ _ (by omega) h1
  · exact Memory.wf_cutProgram _ _ _ h2
  · exact Memory.wf_cutErase _ _ (by omega) h3
  · exact Memory.wf_cutProgram _ _ _ h4
  · exact Memory.wf_program _ _ (Memory.wf_programDown _ _ h5)

/-- A clear cut by a reset keeps the canonical form. -/
theorem Memory.wf_cutClear {m : Memory} (elapsed free : Nat) (hm : m.wf = true) : (m.cutClear elapsed free).wf = true := by
  have h1 := Memory.wf_erasePage 1 hm
  unfold Memory.cutClear
  split_ifs
  · exact hm
  · exact Memory.wf_cutErase _ _ (by omega) hm
  · exact Memory.wf_cutErase _ _ (by omega) h1
  · exact Memory.wf_cutErase _ _ (by omega) (Memory.wf_erasePage 2 h1)

/-- What a reset leaves of the pages keeps the canonical form. -/
theorem ZoneMemory.wf_afterReset (z : ZoneMemory) (free : Nat) (hm : z.nv.wf = true) : (z.afterReset free).wf = true := by
  unfold ZoneMemory.afterReset
  split
  · exact hm
  · exact Memory.wf_cutSave _ _ _ hm
  · exact Memory.wf_cutClear _ _ hm

/-- The memory of the state after reset has the canonical form. -/
theorem State.reset_memory_wf : State.reset.memory.nv.wf = true := by decide

/-! ### Page 0 (R183) -/

/-- A page other than page 0 erased leaves the bytes of every other page. -/
theorem Memory.read_erasePage_other (m : Memory) (page a : Nat) (h : pageOf a ≠ page) :
    (m.erasePage page).read a = m.read a := by
  unfold Memory.erasePage
  split
  · rfl
  · induction m with
    | nil => rfl
    | cons c rest ih =>
      obtain ⟨x, y⟩ := c
      by_cases hx : pageOf x = page
      · have hne : a ≠ x := fun e => h (e ▸ hx)
        simp only [List.filter_cons, hx, ne_eq, not_true_eq_false, decide_false, Bool.false_eq_true, if_false,
          Memory.read, hne]
        exact ih
      · simp only [List.filter_cons, ne_eq, hx, not_false_eq_true, decide_true, if_true, Memory.read, ih]

/-- An erased page reads FF. -/
theorem Memory.read_erasePage_same (m : Memory) (page a : Nat) (h : pageOf a = page) (h0 : page ≠ 0) :
    (m.erasePage page).read a = erasedByte := by
  unfold Memory.erasePage
  rw [if_neg h0]
  induction m with
  | nil => rfl
  | cons c rest ih =>
    obtain ⟨x, y⟩ := c
    by_cases hx : pageOf x = page
    · simp only [List.filter_cons, hx, ne_eq, not_true_eq_false, decide_false, Bool.false_eq_true, if_false, ih]
    · have hne : a ≠ x := fun e => hx (e ▸ h)
      simp only [List.filter_cons, ne_eq, hx, not_false_eq_true, decide_true, if_true, Memory.read, hne, if_false, ih]

/-- Programming a byte leaves every other byte. -/
theorem Memory.read_program_other (m : Memory) (a b : Nat) (v : Byte) (h : b ≠ a) :
    (m.program a v).read b = m.read b := by
  unfold Memory.program
  split
  · rfl
  · exact Memory.read_write_other m a b _ h

/-- Programming takes bits from 1 to 0 and none from 0 to 1, outside page 0. -/
theorem Memory.read_program_same (m : Memory) (a : Nat) (v : Byte) (hm : m.wf = true) (h : pageOf a ≠ 0) (ha : a < 256) :
    (m.program a v).read a = m.read a &&& v := by
  unfold Memory.program
  rw [if_neg (by omega), Memory.read_write m a a _ hm, if_pos rfl]

/-- Programming bytes leaves the addresses outside their range. -/
theorem Memory.read_programAll_other (m : Memory) (a b : Nat) (vs : List Byte) (h : b < a ∨ a + vs.length ≤ b) :
    (m.programAll a vs).read b = m.read b := by
  induction vs generalizing m a with
  | nil => rfl
  | cons v rest ih =>
    simp only [List.length_cons] at h
    rw [Memory.programAll, ih (m.program a v) (a + 1) (by omega), Memory.read_program_other m a b v (by omega)]

/-- Programming bytes from the highest down leaves the addresses outside their range. -/
theorem Memory.read_programDown_other (m : Memory) (a b : Nat) (vs : List Byte) (h : b < a ∨ a + vs.length ≤ b) :
    (m.programDown a vs).read b = m.read b := by
  induction vs generalizing a with
  | nil => rfl
  | cons v rest ih =>
    simp only [List.length_cons] at h
    rw [Memory.programDown, Memory.read_program_other _ a b v (by omega), ih (a + 1) (by omega)]

/-- Bytes of an erased page programmed from the highest down read as programmed. -/
theorem Memory.read_programDown_same (m : Memory) (a i : Nat) (vs : List Byte) (hm : m.wf = true) (ha : 32 ≤ a)
    (hb : a + vs.length ≤ 256) (hi : i < vs.length) :
    (m.programDown a vs).read (a + i) = m.read (a + i) &&& vs[i] := by
  induction vs generalizing a i with
  | nil => cases hi
  | cons v rest ih =>
    simp only [List.length_cons] at hb hi
    cases i with
    | zero =>
      simp only [Memory.programDown, Nat.add_zero]
      rw [Memory.read_program_same _ a v (Memory.wf_programDown _ _ hm) (by unfold pageOf; omega) (by omega),
        Memory.read_programDown_other m (a + 1) a rest (by omega)]
      rfl
    | succ i =>
      rw [Memory.programDown, Memory.read_program_other _ a _ v (by omega), show a + (i + 1) = a + 1 + i by omega,
        ih (a + 1) i (by omega) (by omega) (by omega)]
      rfl

/-- A marker that is not complete is not 5A (R190). -/
theorem cutMarker_ne (free : Nat) : cutMarker free ≠ 0x5A := by
  unfold cutMarker
  dsimp only
  split
  · decide
  · assumption

/-- The last step of a save, cut (R190, R191): in an erased page 1 the bytes above the one in progress read as programmed,
the bytes below it FF. -/
theorem Memory.read_cutMarkerPage (m : Memory) (values : List Byte) (free i : Nat) (hm : m.wf = true)
    (hv : values.length = 32) (hi : i < 32) (he : m.read (32 + i) = erasedByte) :
    (Config.cutPlace free % 32 < i → (m.cutMarkerPage values free).read (32 + i) = values[i]) ∧
    (i < Config.cutPlace free % 32 → (m.cutMarkerPage values free).read (32 + i) = erasedByte) := by
  unfold Memory.cutMarkerPage
  have hp : Config.cutPlace free % 32 < 32 := Nat.mod_lt _ (by decide)
  generalize Config.cutPlace free % 32 = place at hp ⊢
  refine ⟨fun h => ?_, fun h => ?_⟩
  · have hsame := Memory.read_programDown_same m (32 + place + 1) (i - (place + 1)) (values.drop (place + 1)) hm
      (by omega) (by simp only [List.length_drop]; omega) (by simp only [List.length_drop]; omega)
    rw [show 32 + place + 1 + (i - (place + 1)) = 32 + i by omega, he, List.getElem_drop] at hsame
    rw [Memory.read_program_other _ _ _ _ (by omega), hsame]
    simp only [show place + 1 + (i - (place + 1)) = i by omega, erasedByte]
    exact BitVec.allOnes_and
  · rw [Memory.read_program_other _ _ _ _ (by omega), Memory.read_programDown_other _ _ _ _ (by omega), he]

/-- A fold whose every step leaves a byte leaves it. -/
theorem Memory.read_foldl (f : Memory → Nat → Memory) (l : List Nat) (a : Nat)
    (h : ∀ m, ∀ i ∈ l, (f m i).read a = Memory.read m a) (m : Memory) : Memory.read (l.foldl f m) a = m.read a := by
  induction l generalizing m with
  | nil => rfl
  | cons i rest ih =>
    rw [List.foldl_cons, ih (fun m j hj => h m j (List.mem_cons_of_mem _ hj)), h m i (by simp)]

/-- A cut erase leaves the bytes of every other page. -/
theorem Memory.read_cutErase_other (m : Memory) (page free a : Nat) (h : pageOf a ≠ page) :
    (m.cutErase page free).read a = m.read a := by
  unfold Memory.cutErase
  split
  · rfl
  · refine Memory.read_foldl _ _ a (fun m i hi => Memory.read_write_other m _ a _ ?_) m
    have := List.mem_range.1 hi
    rintro rfl
    exact h (by unfold pageOf; omega)

/-- A cut programming leaves the addresses outside its range. -/
theorem Memory.read_cutProgram_other (m : Memory) (a b : Nat) (vs : List Byte) (free : Nat)
    (h : b < a ∨ a + vs.length ≤ b) : (m.cutProgram a vs free).read b = m.read b := by
  refine Memory.read_foldl _ _ b (fun m i hi => Memory.read_program_other m _ b _ ?_) m
  have := List.mem_range.1 hi
  omega

/-- A reset leaves the identity page. -/
theorem ZoneMemory.read_afterReset_page0 (z : ZoneMemory) (free a : Nat) (h : a < 32) :
    (z.afterReset free).read a = z.nv.read a := by
  have hp : pageOf a = 0 := by unfold pageOf; omega
  have e1 : ∀ m : Memory, ∀ page, page ≠ 0 → (m.erasePage page).read a = m.read a :=
    fun m page hpage => Memory.read_erasePage_other m page a (by omega)
  have e2 : ∀ m : Memory, ∀ page f, page ≠ 0 → (m.cutErase page f).read a = m.read a :=
    fun m page f hpage => Memory.read_cutErase_other m page f a (by omega)
  have e3 : ∀ (m : Memory) vs, ∀ b, 32 ≤ b → (m.programAll b vs).read a = m.read a :=
    fun m vs b hb => Memory.read_programAll_other m b a vs (by omega)
  have e4 : ∀ (m : Memory) vs f, ∀ b, 32 ≤ b → (m.cutProgram b vs f).read a = m.read a :=
    fun m vs f b hb => Memory.read_cutProgram_other m b a vs f (by omega)
  have e5 : ∀ (m : Memory) vs f, (m.cutMarkerPage vs f).read a = m.read a := fun m vs f => by
    unfold Memory.cutMarkerPage
    dsimp only
    rw [Memory.read_program_other _ _ _ _ (by omega), Memory.read_programDown_other _ _ _ _ (by omega)]
  unfold ZoneMemory.afterReset
  split
  · rfl
  · unfold Memory.cutSave
    dsimp only
    split_ifs <;> simp [e1, e2, e3, e4, e5]
  · unfold Memory.cutClear
    split_ifs <;> simp [e1, e2]

/-- A whole save leaves the identity page. -/
theorem Memory.read_writeRecord_page0 (m : Memory) (snapshot : List Byte) (a : Nat) (h : a < 32) :
    (m.writeRecord snapshot).read a = m.read a := by
  have hp : ∀ page, page ≠ 0 → pageOf a ≠ page := fun page hpage => by unfold pageOf; omega
  unfold Memory.writeRecord
  dsimp only
  rw [Memory.read_programDown_other _ _ _ _ (by omega), Memory.read_programAll_other _ _ _ _ (by omega),
    Memory.read_erasePage_other _ _ _ (hp 3 (by omega)), Memory.read_programAll_other _ _ _ _ (by omega),
    Memory.read_erasePage_other _ _ _ (hp 2 (by omega)), Memory.read_erasePage_other _ _ _ (hp 1 (by omega))]

/-- A whole clear leaves the identity page. -/
theorem Memory.read_clearRecord_page0 (m : Memory) (a : Nat) (h : a < 32) : m.clearRecord.read a = m.read a := by
  have hp : ∀ page, page ≠ 0 → pageOf a ≠ page := fun page hpage => by unfold pageOf; omega
  unfold Memory.clearRecord
  rw [Memory.read_erasePage_other _ _ _ (hp 3 (by omega)), Memory.read_erasePage_other _ _ _ (hp 2 (by omega)),
    Memory.read_erasePage_other _ _ _ (hp 1 (by omega))]

/-! ### The pages through the operations of Zone Memory -/

/-- The save requests and their starts leave the pages. -/
@[simp] theorem startSave_nv (s : State) : (startSave s).memory.nv = s.memory.nv := rfl

@[simp] theorem saveRequest_nv (s : State) : (saveRequest s).memory.nv = s.memory.nv := by
  unfold saveRequest; (repeat' split) <;> simp

@[simp] theorem startPendingSave_nv (s : State) : (startPendingSave s).memory.nv = s.memory.nv := by
  unfold startPendingSave; split <;> simp

@[simp] theorem memoryLinkEvent_nv (s : State) : (memoryLinkEvent s).memory.nv = s.memory.nv := by
  unfold memoryLinkEvent; split <;> simp

@[simp] theorem forgetRecord_nv (s : State) : (forgetRecord s).memory.nv = s.memory.nv := by
  unfold forgetRecord; dsimp only; split <;> simp

/-! ### Equal reads, equal data -/

/-- An address below every listed one reads as erased. -/
theorem Memory.read_below (m : Memory) (a : Nat) (h : ∀ c ∈ m, a < c.1) : m.read a = erasedByte := by
  induction m with
  | nil => rfl
  | cons c rest ih =>
    have hc := h c (by simp)
    simp only [Memory.read, if_neg (Nat.ne_of_lt hc)]
    exact ih (fun d hd => h d (List.mem_cons_of_mem _ hd))

/-- Memories in canonical form that read alike are equal. -/
theorem Memory.eq_of_read {m n : Memory} (hm : m.wf = true) (hn : n.wf = true) (h : ∀ a, m.read a = n.read a) : m = n := by
  induction m generalizing n with
  | nil =>
    cases n with
    | nil => rfl
    | cons d rest =>
      simp only [Memory.wf, Bool.and_eq_true, decide_eq_true_eq] at hn
      have := h d.1
      simp only [Memory.read, if_true] at this
      exact absurd this.symm hn.1.1.2
  | cons c mrest ih =>
    have hm' := hm
    simp only [Memory.wf, Bool.and_eq_true, decide_eq_true_eq, List.all_eq_true] at hm
    obtain ⟨⟨⟨_, hc⟩, hlow⟩, hwf⟩ := hm
    cases n with
    | nil =>
      have := h c.1
      simp only [Memory.read, if_true] at this
      exact absurd this hc
    | cons d nrest =>
      have hn' := hn
      simp only [Memory.wf, Bool.and_eq_true, decide_eq_true_eq, List.all_eq_true] at hn
      obtain ⟨⟨⟨_, hd⟩, hlow'⟩, hwf'⟩ := hn
      have hkey : c.1 = d.1 := by
        rcases Nat.lt_trichotomy c.1 d.1 with hlt | heq | hgt
        · have hr := h c.1
          rw [Memory.read_below (d :: nrest) c.1 (by
            intro x hx
            rcases List.mem_cons.1 hx with rfl | hx
            · exact hlt
            · exact Nat.lt_trans hlt (hlow' x hx))] at hr
          simp only [Memory.read, if_true] at hr
          exact absurd hr hc
        · exact heq
        · have hr := h d.1
          rw [Memory.read_below (c :: mrest) d.1 (by
            intro x hx
            rcases List.mem_cons.1 hx with rfl | hx
            · exact hgt
            · exact Nat.lt_trans hgt (hlow x hx))] at hr
          simp only [Memory.read, if_true] at hr
          exact absurd hr.symm hd
      have hval : c.2 = d.2 := by
        have hr := h c.1
        simpa only [Memory.read, hkey, if_true] using hr
      have hrest : mrest = nrest := by
        refine ih hwf hwf' (fun a => ?_)
        by_cases ha : a = c.1
        · rw [ha, Memory.read_below mrest c.1 hlow, Memory.read_below nrest c.1 (fun x hx => by
            rw [hkey]; exact hlow' x hx)]
        · have hr := h a
          simpa only [Memory.read, if_neg ha, if_neg (hkey ▸ ha : a ≠ d.1)] using hr
      rw [hrest, Prod.ext hkey hval]

end Sys2Proof.Machine
end

