-- ==== Sys2Proof/Laws/Operations.lean ====
section
/-! SUPPORT. For each shared operation one lemma that says everything it can do, to be cited in place of unfolding it. -/

namespace Sys2Proof.Machine

/-! ### Timers, values and slots -/

/-- An expiry is the effect of a running timer, or nothing. -/
theorem onExpiry_cases (timer : Timer) (effect : State → State) (s : State) :
    (timer.isSome = true ∧ onExpiry timer effect s = effect s) ∨ (timer = none ∧ onExpiry timer effect s = s) := by
  cases timer <;> simp [onExpiry]

/-- A counter advanced is one more, or stays at 65535 or above. -/
theorem bump_cases (n : Nat) : (n < 65535 ∧ bump n = n + 1) ∨ (65535 ≤ n ∧ bump n = n) := by
  unfold bump; split <;> omega

/-- A clamped value lies in the range, and is the value itself where that lies in it. -/
theorem clampInt_spec {low high : Int} (h : low ≤ high) (v : Int) :
    low ≤ clampInt low high v ∧ clampInt low high v ≤ high ∧
      (low ≤ v → v ≤ high → clampInt low high v = v) ∧ (v < low → clampInt low high v = low) ∧
      (high < v → clampInt low high v = high) := by
  unfold clampInt; split <;> (try split) <;> omega

/-- A move toward a goal ends between the value and the goal, at most a step from the value. -/
theorem moveToward_spec (value goal up down : Nat) :
    moveToward value goal up down ≤ value + up ∧ value ≤ moveToward value goal up down + down ∧
      (value ≤ goal → value ≤ moveToward value goal up down ∧ moveToward value goal up down ≤ goal) ∧
      (goal ≤ value → goal ≤ moveToward value goal up down ∧ moveToward value goal up down ≤ value) := by
  unfold moveToward; split <;> (try split) <;> omega

/-- The entry of a slot after a slot was written. -/
theorem slotAt_set {α : Type} (slots : List (Option α)) (i n : Nat) (e : Option α) (hi : i < slots.length) :
    slotAt (slots.set i e) n = if n = i then e else slotAt slots n := by
  unfold slotAt
  by_cases h : n = i
  · subst h; simp [hi]
  · simp [h, Ne.symm h]

/-- A slot found by a test holds an entry that meets it, and no lower slot does. -/
theorem findSlot_some {α : Type} {slots : List (Option α)} {test : α → Bool} {i : Nat} (h : findSlot slots test = some i) :
    i < slots.length ∧ (∃ e, slotAt slots i = some e ∧ test e = true) ∧
      ∀ n e, n < i → slotAt slots n = some e → test e = false := by
  unfold findSlot at h
  obtain ⟨hi, ht, hlow⟩ := List.findIdx?_eq_some_iff_getElem.mp h
  refine ⟨hi, ?_, ?_⟩
  · obtain ⟨e, he, hte⟩ := Option.any_eq_true_iff_get _ _ |>.mp ht |>
      fun ⟨h₁, h₂⟩ => (⟨_, Option.some_get h₁ |>.symm, h₂⟩ : ∃ e, _ = some e ∧ test e = true)
    exact ⟨e, by simp [slotAt, hi, he], hte⟩
  · intro n e hn he
    have hn' : n < slots.length := Nat.lt_trans hn hi
    have := hlow n hn
    have hget : slots[n] = some e := by simpa [slotAt, hn'] using he
    simpa [hget] using this

/-- No slot found by a test: no entry meets it. -/
theorem findSlot_none {α : Type} {slots : List (Option α)} {test : α → Bool} (h : findSlot slots test = none) :
    ∀ n e, slotAt slots n = some e → test e = false := by
  intro n e he
  unfold findSlot at h
  have hall := List.findIdx?_eq_none_iff.mp h
  have hn : n < slots.length := by
    by_contra hn
    simp [slotAt, Nat.le_of_not_lt hn] at he
  have hget : slots[n] = some e := by simpa [slotAt, hn] using he
  have := hall _ (List.getElem_mem hn)
  simpa [hget] using this

/-! ### The transmit queue (R169 to R173, R179) -/

/-- Fixing a head does nothing, or fixes the first request with exponent 3, no attempt and a drawn backoff. -/
theorem fixHead_cases (s : State) :
    fixHead s = s ∨
      (s.line.contention = .unfixed ∧ s.line.queue ≠ [] ∧ s.line.idleFour = true ∧
        fixHead s =
          { s.afterDraw with line := { s.line with contention := .fixed 3 0 (.counting (s.backoffUnits 3)) } }) := by
  unfold fixHead
  split
  · rename_i h₁ h₂
    split
    · rename_i h₃; exact .inr ⟨h₁, by simp [h₂], h₃, rfl⟩
    · exact .inl rfl
  · exact .inl rfl

/-- A request inserted by rank stands behind all of its rank and lower rank numbers, before the first of a higher one. -/
theorem insertByRank_split (q : Queued) (l : List Queued) :
    ∃ before after, l = before ++ after ∧ insertByRank q l = before ++ q :: after ∧
      (∀ x ∈ before, rank x.request ≤ rank q.request) ∧ ∀ x ∈ after.head?, rank q.request < rank x.request := by
  induction l with
  | nil => exact ⟨[], [], rfl, rfl, by simp, by simp⟩
  | cons x rest ih =>
    unfold insertByRank
    split
    · rename_i h; exact ⟨[], x :: rest, rfl, rfl, by simp, by simpa using h⟩
    · rename_i h
      obtain ⟨before, after, h₁, h₂, h₃, h₄⟩ := ih
      refine ⟨x :: before, after, by simp [h₁], by simp [h₂], ?_, h₄⟩
      intro y hy
      rcases List.mem_cons.mp hy with rfl | hy
      · omega
      · exact h₃ y hy

/-- A request inserted by rank makes the queue one longer and loses none. -/
theorem insertByRank_perm (q : Queued) (l : List Queued) : (insertByRank q l).Perm (q :: l) := by
  obtain ⟨before, after, h₁, h₂, -⟩ := insertByRank_split q l
  rw [h₂, h₁]
  exact List.perm_middle

/-- A request that enters is numbered, makes the queue one longer, and changes nothing else of the interface. -/
theorem enter_spec (l : LineInterface) (r : Request) :
    (l.enter r).queue.Perm (⟨r, l.entries⟩ :: l.queue) ∧
      l.enter r = { l with queue := (l.enter r).queue, entries := l.entries + 1 } := by
  refine ⟨?_, rfl⟩
  unfold LineInterface.enter
  split
  · rename_i x rest _ h
    simp only [h]
    exact ((insertByRank_perm _ _).cons x).trans (List.Perm.swap _ _ _)
  · exact insertByRank_perm _ _

/-- A request offered: not taken in this phase, held as the follow-on, already there, or in need of a slot. -/
theorem offer_cases (r : Request) (s : State) :
    (takesRequest s.phase r = false ∧ offer r s = s) ∨
      (heldOnce r = true ∧ s.line.holds r = true ∧ s.line.sendingRequest = some r ∧ r ≠ .callJoin ∧
        offer r s = { s with line := { s.line with followOn := true } }) ∨
      (heldOnce r = true ∧ s.line.holds r = true ∧ offer r s = s) ∨
      (takesRequest s.phase r = true ∧ (heldOnce r = true → s.line.holds r = false) ∧
        offer r s = enterOrDisplace r s) := by
  unfold offer
  split
  · rename_i h; exact .inl ⟨by simpa using h, rfl⟩
  · rename_i h
    split
    · rename_i h₂
      simp only [Bool.and_eq_true] at h₂
      split
      · rename_i h₃
        simp only [Bool.and_eq_true, decide_eq_true_eq] at h₃
        exact .inr (.inl ⟨h₂.1, h₂.2, h₃.1, h₃.2, rfl⟩)
      · exact .inr (.inr (.inl ⟨h₂.1, h₂.2, rfl⟩))
    · rename_i h₂
      refine .inr (.inr (.inr ⟨by simpa using h, ?_, rfl⟩))
      intro hr
      simpa [hr] using h₂

/-- A request in need of a slot: it enters, displaces the victim, or is refused. -/
theorem enterOrDisplace_cases (r : Request) (s : State) :
    (s.line.queue.length < 8 ∧ enterOrDisplace r s = fixHead { s with line := s.line.enter r }) ∨
      (8 ≤ s.line.queue.length ∧
        (let counted := s.count (fun c => { c with queueRefusals := bump c.queueRefusals })
        (∃ v, s.line.victim (rank r) = some v ∧
          enterOrDisplace r s = fixHead { counted with line := (counted.line.displace v).enter r }) ∨
        (s.line.victim (rank r) = none ∧ enterOrDisplace r s = counted))) := by
  unfold enterOrDisplace
  split
  · rename_i h; exact .inl ⟨h, rfl⟩
  · rename_i h
    refine .inr ⟨by omega, ?_⟩
    cases hv : s.line.victim (rank r) with
    | some v => exact .inl ⟨v, rfl, rfl⟩
    | none => exact .inr ⟨rfl, rfl⟩

/-- A withdrawal: of a notice being sent its follow-on, of the fixed head the head with the next one fixed, and of any
other request the request itself. -/
theorem withdraw_cases (r : Request) (s : State) :
    (s.line.sendingRequest = some r ∧ withdraw r s = { s with line := { s.line with followOn := false } }) ∨
      (s.line.sendingRequest ≠ some r ∧ s.line.contention ≠ .unfixed ∧ (∃ q ∈ s.line.queue.head?, q.request = r) ∧
        withdraw r s = fixHead { s with line := s.line.dropHead }) ∨
      (s.line.sendingRequest ≠ some r ∧
        withdraw r s =
          { s with line := { s.line with queue := s.line.queue.filter (fun q => decide (q.request ≠ r)) } }) := by
  unfold withdraw
  split
  · rename_i h; exact .inl ⟨by simpa using h, rfl⟩
  · rename_i h
    have hs : s.line.sendingRequest ≠ some r := by simpa using h
    split
    · rename_i e a ht x rest hc hq
      split
      · rename_i hx
        exact .inr (.inl ⟨hs, by simp [hc], by simp [hq, hx], rfl⟩)
      · rename_i hx
        exact .inr (.inr ⟨hs, by simp [hq, hx]⟩)
    · exact .inr (.inr ⟨hs, rfl⟩)

/-! ### The line (R163, R166, R174 to R178) -/

/-- A notice given by its fields: nothing before the framer's first idle, else its verdict acted on at its end. -/
theorem receive_cases (n : Notice) (s : State) :
    (s.framing = false ∧ receive n s = s) ∨
      (s.framing = true ∧ receive n s = applyVerdict (judgeNotice n) (lineIdleThree s)) := by
  unfold receive; cases h : s.framing <;> simp

/-- The bytes collected: nothing before the framer's first idle, else their verdict acted on at the end; behind this node's
own notice what is broken is counted. -/
theorem receiveBytes_cases (raw : Collected) (s : State) :
    (s.framing = false ∧ (s.tailDisturbed = false ∨ judge raw ≠ .counted) ∧ receiveBytes raw s = s) ∨
      (s.framing = false ∧ s.tailDisturbed = true ∧ judge raw = .counted ∧
        receiveBytes raw s =
          (s.withLine { s.line with level := .idle (3 * byteTime) }).count
            (fun c => { c with badNotices := bump c.badNotices })) ∨
      (s.framing = true ∧ receiveBytes raw s = applyVerdict (judge raw) (lineIdleThree s)) := by
  unfold receiveBytes
  cases h : s.framing
  · by_cases hv : judge raw = .counted
    · cases ht : s.tailDisturbed <;> simp [hv, applyVerdict]
    · simp [hv]
  · simp

/-- A notice is sent whole when its time has run out while it is being sent. -/
theorem sentWhole_eq_some (l : LineInterface) (n : Notice) :
    l.sentWhole = some n ↔ ∃ e a, l.contention = .fixed e a (.sending n 0) := by
  unfold LineInterface.sentWhole
  split <;> simp_all

/-- The completion is due when the notice is sent whole and the line has been idle for 3 byte times (R177). -/
theorem noticeCompletion_mem_dueLine (s : State) :
    .noticeCompletion ∈ s.dueLine ↔
      s.line.queue ≠ [] ∧ s.line.sentWhole.isSome = true ∧ s.line.idleFor 3 = true := by
  unfold State.dueLine LineInterface.sentWhole dueIf
  cases s.line.contention with
  | unfixed => cases s.line.queue <;> simp
  | fixed e a head => cases head <;> cases s.line.queue <;> simp

/-- A verdict counts a bad notice, does nothing, or delivers. -/
theorem applyVerdict_cases (v : Verdict) (s : State) :
    (v = .counted ∧ applyVerdict v s = s.count (fun c => { c with badNotices := bump c.badNotices })) ∨
      (v = .uncounted ∧ applyVerdict v s = s) ∨ ∃ n, v = .passes n ∧ applyVerdict v s = deliver n s := by
  cases v <;> simp [applyVerdict]

/-- A line-win sends a body, or withdraws the head. -/
theorem winLine_cases (e a : Nat) (r : Request) (s : State) :
    (∃ body, winLine e a r s = startSending e a body s) ∨ winLine e a r s = withdrawHead s ∨
      winLine e a r s = fixHead (schedNotAdmitted (s.withLine s.line.dropHead)) := by
  unfold winLine
  split
  · split
    · exact .inl ⟨_, rfl⟩
    · rename_i told _
      cases told
      · exact .inr (.inl rfl)
      · exact .inr (.inr rfl)
  · exact .inl ⟨_, rfl⟩
  · exact .inl ⟨_, rfl⟩
  · split
    · exact .inl ⟨_, rfl⟩
    · exact .inr (.inl rfl)
  · exact .inl ⟨_, rfl⟩
  · exact .inl ⟨_, rfl⟩
  · exact .inl ⟨_, rfl⟩

/-- A loss drops the head at its 16th attempt, drops a request given up by its owner, or raises the exponent. -/
theorem loseAttempt_cases (e a : Nat) (r : Request) (s : State) :
    (16 ≤ a ∧ loseAttempt e a r s = dropRequest r s) ∨
      (a < 16 ∧ s.withdrawnAtLoss r = true ∧
        loseAttempt e a r s = s.withLine { s.line.dropHead with level := .busy }) ∨
      (a < 16 ∧ s.withdrawnAtLoss r = false ∧
        loseAttempt e a r s =
          s.withLine { s.line with contention := .fixed (min 7 (e + 1)) a .lost, followOn := false, level := .busy }) := by
  unfold loseAttempt
  split
  · rename_i h; exact .inl ⟨h, rfl⟩
  · rename_i h
    cases hw : s.withdrawnAtLoss r
    · exact .inr (.inr ⟨by omega, rfl, by simp⟩)
    · exact .inr (.inl ⟨by omega, rfl, by simp⟩)

/-! ### The Probe Scheduler (R46 to R57) -/

/-- A cause of BRISK: extended in BRISK, entered in NORMAL, and entered with the reload of R49 in RESTING. -/
theorem enterBrisk_cases (duration : Nat) (s : State) :
    (s.sched.mode = .brisk ∧
        enterBrisk duration s = s.withSched { s.sched with brisk := some (max (s.sched.brisk.getD 0) duration) }) ∨
      (s.sched.mode = .normal ∧ s.sched.state = .resting ∧
        enterBrisk duration s = reloadForBrisk (s.withSched { s.sched with mode := .brisk, brisk := some duration })) ∨
      (s.sched.mode = .normal ∧ s.sched.state ≠ .resting ∧
        enterBrisk duration s = s.withSched { s.sched with mode := .brisk, brisk := some duration }) := by
  unfold enterBrisk
  cases hm : s.sched.mode
  · cases hs : s.sched.state <;> simp
  · simp

/-- "Not admitted" leaves the scheduler alone unless it waits with a request queued. -/
theorem schedNotAdmitted_cases (s : State) :
    schedNotAdmitted s = s ∨
      (s.sched.state = .wanting ∧ s.sched.wait = some .queued ∧
        ((s.round.phase = .none ∧ schedNotAdmitted s = startRetryDelay s) ∨
          (s.round.phase ≠ .none ∧ schedNotAdmitted s = s.withSched { s.sched with wait := some .closeWait }))) := by
  unfold schedNotAdmitted
  split
  · rename_i h₁ h₂
    refine .inr ⟨h₁, h₂, ?_⟩
    cases hp : s.round.phase <;> simp
  · exact .inl rfl

/-- The close of a followed round: back to RESTING from PROBING, a retry delay from CLOSE-WAIT, else nothing. -/
theorem schedClose_cases (s : State) :
    (s.sched.state = .probing ∧ schedClose s = restWithNewProbe s) ∨
      (s.sched.state = .wanting ∧ s.sched.wait = some .closeWait ∧ schedClose s = startRetryDelay s) ∨
      (s.sched.state ≠ .probing ∧ schedClose s = s) := by
  unfold schedClose
  split
  · rename_i h; exact .inl ⟨h, rfl⟩
  · rename_i h₁ h₂; exact .inr (.inl ⟨h₁, h₂, rfl⟩)
  · rename_i h₁ h₂; exact .inr (.inr ⟨h₁, rfl⟩)

/-- "Listed" makes the scheduler PROBING with every other timer of its turn stopped. -/
theorem schedListed_cases (s : State) :
    (s.sched.state = .probing ∧ schedListed s = s) ∨
      (s.sched.state ≠ .probing ∧
        schedListed s = s.withSched
          { s.sched with state := .probing, probe := none, wait := none, deadline := none, retry := none }) := by
  unfold schedListed; cases h : s.sched.state <;> simp

/-! ### Zone Memory (R187, R188) -/

/-- A save request merges, starts a save, or waits. -/
theorem saveRequest_cases (s : State) :
    (s.memory.pendingSave = true ∧ saveRequest s = s) ∨
      (s.memory.pendingSave = false ∧ s.memory.engine = .idle ∧ s.memory.rest = none ∧ saveRequest s = startSave s) ∨
      (s.memory.pendingSave = false ∧ (s.memory.engine ≠ .idle ∨ s.memory.rest.isSome = true) ∧
        saveRequest s = s.withMemory { s.memory with pendingSave := true }) := by
  unfold saveRequest
  cases hp : s.memory.pendingSave
  · cases he : s.memory.engine <;> cases hr : s.memory.rest <;> simp
  · simp

/-- A pending save starts, or nothing does. -/
theorem startPendingSave_cases (s : State) :
    (s.memory.pendingSave = true ∧ s.memory.engine = .idle ∧ s.memory.rest = none ∧ startPendingSave s = startSave s) ∨
      startPendingSave s = s := by
  unfold startPendingSave
  split
  · rename_i h₁ h₂ h₃; exact .inl ⟨h₁, h₂, h₃, rfl⟩
  · exact .inr rfl

/-! ### The zone election (R90 to R98) -/

/-- The announcement check offers a CLAIM, or does nothing. -/
theorem announcementCheck_cases (s : State) :
    (s.election.announced ≠ some s.election.derived ∧ s.phase = .running ∧ s.election.claimSpacing = none ∧
        announcementCheck s = offer .claim s) ∨ announcementCheck s = s := by
  unfold announcementCheck
  split
  · exact .inr rfl
  · split
    · exact .inr rfl
    · split
      · exact .inr rfl
      · rename_i h₁ h₂ h₃
        exact .inl ⟨h₁, by simpa using h₂, by simpa using h₃, rfl⟩

/-- A derivation keeps the claim held, or takes the best candidate. -/
theorem derive_cases (s : State) :
    (s.phase ≠ .running ∧ derive s = s) ∨
      (s.phase = .running ∧ s.election.derived = s.bestCandidate.claim ∧ s.election.parent = s.bestCandidate.parent ∧
        derive s = s) ∨
      (s.phase = .running ∧
        (s.bestCandidate.claim ≠ s.election.derived ∨ s.bestCandidate.parent ≠ s.election.parent) ∧
        derive s = takeDerived s.bestCandidate s) := by
  unfold derive
  split
  · rename_i h; exact .inl ⟨h, rfl⟩
  · rename_i h
    have hp : s.phase = .running := by simpa using h
    simp only
    split
    · rename_i hb; exact .inr (.inl ⟨hp, hb.1.symm, hb.2.symm, rfl⟩)
    · rename_i hb; exact .inr (.inr ⟨hp, by tauto, rfl⟩)

/-- The timer of root duty after a change of the derived root. -/
theorem rootDuty_cases (before after : Station) (s : State) :
    (before = after ∧ rootDuty before after s = s) ∨
      (before ≠ after ∧ after = s.station ∧
        rootDuty before after s = s.withElection { s.election with generationTimer := some (seconds 30) }) ∨
      (before ≠ after ∧ after ≠ s.station ∧ before = s.station ∧
        rootDuty before after s = s.withElection { s.election with generationTimer := none }) ∨
      (before ≠ after ∧ after ≠ s.station ∧ before ≠ s.station ∧ rootDuty before after s = s) := by
  unfold rootDuty
  split
  · rename_i h; exact .inl ⟨h, rfl⟩
  · rename_i h
    split
    · rename_i h₂; exact .inr (.inl ⟨h, h₂, rfl⟩)
    · rename_i h₂
      split
      · rename_i h₃; exact .inr (.inr (.inl ⟨h, h₂, h₃, rfl⟩))
      · rename_i h₃; exact .inr (.inr (.inr ⟨h, h₂, h₃, rfl⟩))

/-- A candidate comes from a linked entry with a current claim of hops 14 or fewer. -/
theorem candidateOf_some {roots : List (Option RootEntry)} {e : Entry} {c : Candidate} (h : candidateOf roots e = some c) :
    ∃ claim, e.claim = some claim ∧ e.link.isLinked = true ∧ isCurrent roots claim = true ∧ claim.hops ≤ 14 ∧
      c.claim = ⟨claim.root, claim.hops + 1, claim.generation⟩ ∧ c.parent = some e.station := by
  unfold candidateOf at h
  split at h
  · cases h
  · rename_i claim hc
    split at h
    · rename_i hl
      simp only [Bool.and_eq_true, decide_eq_true_eq] at hl
      cases h
      exact ⟨claim, hc, hl.1.1, hl.1.2, hl.2, rfl, rfl⟩
    · cases h

/-! ### The Neighbour Table (R62 to R72) -/

/-- An evaluation of a slot: nothing where the sensor is SUSPECT or the slot empty, else the link's move, handed on where
it is one. -/
theorem evaluateSlot_cases (i : Nat) (s : State) :
    evaluateSlot i s = s ∨
      ∃ e link, slotAt s.table.slots i = some e ∧ s.table.sensor = .ok ∧
        link = (evaluateLink (thresholds s.sensClass).1 (thresholds s.sensClass).2 e.link e.pairValue).1 ∧
        (evaluateSlot i s = s.withSlot i (some { e with link := link }) ∨
          evaluateSlot i s = handLinkEvent (s.withSlot i (some { e with link := link }))) := by
  unfold evaluateSlot
  split
  · rename_i e h₁ h₂
    refine .inr ⟨e, _, h₂, h₁, rfl, ?_⟩
    simp only
    split
    · exact .inl rfl
    · exact .inr rfl
    · exact .inr rfl
  · exact .inl rfl

/-- A shift brings BRISK and, where the spacing timer is stopped after listen-only, a STIR. -/
theorem takeShift_cases (s : State) :
    takeShift s = enterBrisk (seconds 600) s ∨
      takeShift s = offer (.stir 0x01)
        ((enterBrisk (seconds 600) s).withTable
          { (enterBrisk (seconds 600) s).table with stirSpacing := some (seconds 60) }) := by
  unfold takeShift
  simp only
  split
  · exact .inl rfl
  · exact .inr rfl

/-- An admission changes nothing, fills one slot with a new entry, or counts an overflow. -/
theorem admission_cases (station : Station) (half : MeasuredHalf) (v : Nat) (s : State) :
    admission station half v s = s ∨
      (∃ i, 64 ≤ v ∧ station ≠ s.station ∧ admission station half v s = s.withSlot i (some (newEntry station half v))) ∨
      admission station half v s = s.count (fun c => { c with tableOverflows := bump c.tableOverflows }) := by
  unfold admission
  split
  · exact .inl rfl
  · rename_i h
    have h64 : 64 ≤ v ∧ station ≠ s.station := ⟨by omega, fun e => h (.inr e)⟩
    split
    · exact .inr (.inl ⟨_, h64.1, h64.2, rfl⟩)
    · split
      · split
        · exact .inr (.inl ⟨_, h64.1, h64.2, rfl⟩)
        · exact .inr (.inr rfl)
      · exact .inr (.inr rfl)

/-- The sensor health after a self-coupling. -/
theorem takeSelfCoupling_cases (f : Finding) (s : State) :
    (∃ k, f = .index k ∧ 100 ≤ k ∧ takeSelfCoupling f s = s.withTable { s.table with suspect := 0, sensor := .ok }) ∨
      takeSelfCoupling f s =
        s.withTable { s.table with
          suspect := min 3 (s.table.suspect + 1),
          sensor := if min 3 (s.table.suspect + 1) = 3 then .suspect else s.table.sensor } := by
  unfold takeSelfCoupling
  cases f with
  | index k =>
    by_cases h : 100 ≤ k
    · exact .inl ⟨k, rfl, h, by simp [h]⟩
    · exact .inr (by simp [h])
  | noisy => exact .inr (by simp)
  | clipped => exact .inr (by simp)

/-! ### The round view (R11 to R16) -/

/-- Marking the view disordered: nothing where the mark is set, else the mark and its counter. -/
theorem markDisordered_cases (s : State) :
    (s.round.disordered = true ∧ markDisordered s = s) ∨
      (s.round.disordered = false ∧
        markDisordered s = (s.withRound { s.round with disordered := true }).count
          (fun c => { c with disorderedRounds := bump c.disorderedRounds })) := by
  unfold markDisordered; cases h : s.round.disordered <;> simp

/-- A JOIN is appended in OPENING, disorders the view there, or is ignored. -/
theorem takeJoin_cases (sender : Station) (depth position : Nat) (s : State) :
    (s.round.phase ≠ .opening ∧ takeJoin sender depth position s = s) ∨
      (s.round.phase = .opening ∧ takeJoin sender depth position s = markDisordered s) ∨
      (s.round.phase = .opening ∧ position = s.round.probers.length + 1 ∧
        ∃ joined, joined = s.withRound
            { s.round with
              probers := s.round.probers ++ [⟨sender, depth, position⟩],
              own := if sender = s.station then some position else s.round.own } ∧
          takeJoin sender depth position s = if sender = s.station then schedListed joined else joined) := by
  unfold takeJoin
  cases hp : s.round.phase
  · exact .inl ⟨by simp, rfl⟩
  · simp only
    split
    · rename_i h
      exact .inr (.inr ⟨trivial, h.1, _, rfl, by simp⟩)
    · exact .inr (.inl ⟨trivial, rfl⟩)
  · exact .inl ⟨by simp, rfl⟩
  · exact .inl ⟨by simp, rfl⟩

/-- FORGET at the Working Zone Unit cancels the settle and starts the hold; a zone change follows where the root is another. -/
theorem forgetZone_cases (s : State) :
    let restarted := s.withZone { s.zone with settle := none, hold := some (seconds 90) }
    (s.zone.working = s.station ∧ forgetZone s = restarted) ∨
      (s.zone.working ≠ s.station ∧ forgetZone s = zoneChange s.station false restarted) := by
  unfold forgetZone
  by_cases h : s.zone.working = s.station <;> simp [h]

/-! ### Lighting and climate -/

/-- A zone change moves the root, may queue a PRESENCE, empties a terminal's roster and may ask for a save. -/
theorem zoneChange_cases (root : Station) (save : Bool) (s : State) :
    ∃ lit, (lit = s.withZone { s.zone with working := root } ∨
          lit = offer .presence (s.withZone { s.zone with working := root })) ∧
      zoneChange root save s = if save then saveRequest (emptyRoster lit) else emptyRoster lit := by
  unfold zoneChange
  cases h : s.light.held
  · exact ⟨_, .inl rfl, by simp⟩
  · exact ⟨_, .inr rfl, by simp⟩

/-- A pulse-mode sample notes the level; after a low one outside the lockout a high one is accepted as an edge. -/
theorem takePulseSample_cases (pinHigh : Bool) (s : State) :
    let noted := s.withLight { s.light with pin := pinHigh, sampling := s.samplePeriod, sampled := some pinHigh }
    (s.light.sampled = some false ∧ pinHigh = true ∧ s.light.lockout = none ∧ takePulseSample pinHigh s = acceptEdge noted) ∨
      (¬ (s.light.sampled = some false ∧ pinHigh = true ∧ s.light.lockout = none) ∧ takePulseSample pinHigh s = noted) := by
  unfold takePulseSample
  simp only
  split
  · rename_i h; exact .inl ⟨h.1, h.2.1, h.2.2, rfl⟩
  · rename_i h; exact .inr ⟨h, rfl⟩

/-- A fade step leaves the lamp, or moves the output level one step and loads its compare. -/
theorem fadeStep_cases (s : State) :
    (moveToward s.light.output s.light.target 10 2 = s.light.output ∧ fadeStep s = s) ∨
      fadeStep s = s.withLight
        { s.light with
          output := moveToward s.light.output s.light.target 10 2,
          buffered := s.compare (moveToward s.light.output s.light.target 10 2) } := by
  unfold fadeStep
  simp only
  split
  · rename_i h; exact .inl ⟨h, rfl⟩
  · exact .inr rfl

/-- A roster write changes one slot, or nothing. -/
theorem writeRoster_cases (station : Station) (t : Int) (roster : List (Option RosterEntry)) :
    (∃ i, writeRoster station t roster = roster.set i (some ⟨station, t, 0⟩)) ∨ writeRoster station t roster = roster := by
  unfold writeRoster
  simp only
  split
  · exact .inl ⟨_, rfl⟩
  · split
    · exact .inl ⟨_, rfl⟩
    · split
      · exact .inl ⟨_, rfl⟩
      · exact .inr rfl

/-- The control law holds the damper on an empty roster, else moves it toward the demand by at most 24. -/
theorem controlLaw_cases (s : State) :
    (entriesOf s.climate.roster = [] ∧ controlLaw s = s) ∨
      ∃ mean, controlLaw s = s.withClimate
        { s.climate with
          lastMean := some mean,
          damper := moveToward s.climate.damper (demandOf (mean - s.effectiveSetpoint)) 24 24 } := by
  unfold controlLaw
  split
  · rename_i h; exact .inl ⟨h, rfl⟩
  · exact .inr ⟨_, rfl⟩

/-- A burst asked for converts at once where the converter serves it, and one that is there stays. -/
theorem requestBurst_cases (s : State) :
    (s.sense.burst = none ∧ requestBurst s = s.withSense { s.sense with burst := some ⟨[], s.servesTemperature⟩ }) ∨
      (s.sense.burst.isSome = true ∧ requestBurst s = s) := by
  unfold requestBurst
  cases h : s.sense.burst
  · exact .inl ⟨rfl, rfl⟩
  · exact .inr ⟨rfl, rfl⟩

/-- A burst that resumes converts where it did before or the converter serves it; nothing else of the part changes. -/
theorem resumeBurst_spec (s : State) :
    (resumeBurst s).temperatureConverting = (s.sense.burst.isSome && (s.temperatureConverting || s.servesTemperature)) ∧
      ∃ burst, resumeBurst s = s.withSense { s.sense with burst := burst } := by
  refine ⟨?_, _, rfl⟩
  unfold resumeBurst State.temperatureConverting
  cases h : s.sense.burst <;> simp [State.withSense]

/-! ### The bits on the line (R162) -/

@[simp] theorem byteBits_length (b : Byte) : (byteBits b).length = 10 := by simp [byteBits]

/-- The bit at each place of a byte on the line. -/
theorem byteBits_get (b : Byte) (i : Nat) (h : i < 10) :
    (byteBits b)[i]? = some (if i = 0 then .dominant else if i = 9 then .recessive else wireOf (b.getLsbD (i - 1))) := by
  have : i = 0 ∨ i = 1 ∨ i = 2 ∨ i = 3 ∨ i = 4 ∨ i = 5 ∨ i = 6 ∨ i = 7 ∨ i = 8 ∨ i = 9 := by omega
  rcases this with rfl | rfl | rfl | rfl | rfl | rfl | rfl | rfl | rfl | rfl <;> rfl

/-- The bits of some bytes back to back: ten to a byte. -/
theorem bits_get (bytes : List Byte) (k : Nat) :
    (bytes.flatMap byteBits)[k]? = bytes[k / 10]?.bind (fun b => (byteBits b)[k % 10]?) := by
  induction bytes generalizing k with
  | nil => rfl
  | cons b rest ih =>
    rw [List.flatMap_cons]
    by_cases h : k < 10
    · rw [List.getElem?_append_left (by simpa using h), Nat.div_eq_of_lt h, Nat.mod_eq_of_lt h]
      rfl
    · rw [List.getElem?_append_right (by simpa using h), byteBits_length, ih, show k / 10 = (k - 10) / 10 + 1 by omega,
        show k % 10 = (k - 10) % 10 by omega]
      rfl

/-- While a fade step waits (R132), none is due. -/
theorem due_of_graceForNoTime {s : State} (h : s.graceForNoTime = true) : .fadeTick ∉ s.due ∧ .startOfSettle ∉ s.due := by
  unfold State.due
  constructor <;> split <;> simp [h, makesFadeStep]

/-- What is due is an expiry, a slot event, a line event or an event of the stages, after step 2 of start-up. -/
theorem mem_due {s : State} {c : Instr} (h : c ∈ s.due) :
    s.stageRuns = true ∧ (c ∈ s.dueTimers ∨ c ∈ s.dueSlots ∨ c ∈ s.dueLine ∨ c ∈ s.dueStages) ∧
      (s.graceForNoTime = true → makesFadeStep c = false) := by
  unfold State.due at h
  split at h
  · rename_i hs
    simp only [List.mem_filter, List.mem_append, Bool.not_eq_true', Bool.and_eq_false_iff] at h
    refine ⟨hs, by simpa [or_assoc] using h.1, fun hg => ?_⟩
    rcases h.2 with h2 | h2
    · rw [hg] at h2; cases h2
    · exact h2
  · cases h

/-- A step on an empty queue takes one event due, the numbering of free values advanced where there were several, or passes
one crystal cycle. -/
theorem idleStep_cases (s : State) :
    (s.stageRuns = false ∧ idleStep s = .next s) ∨
      (s.stageRuns = true ∧ s.due = [] ∧ idleStep s = .next (crystalCycle s)) ∨
      ∃ c ∈ s.due, s.stageRuns = true ∧ (idleStep s = exec c s ∨ idleStep s = exec c { s with free := s.free + 1 }) := by
  unfold idleStep chooseDue
  cases hs : s.stageRuns
  · exact .inl ⟨rfl, by simp⟩
  · refine .inr ?_
    rcases hd : s.due with _ | ⟨c, _ | ⟨d, rest⟩⟩
    · exact .inl ⟨rfl, rfl, rfl⟩
    · exact .inr ⟨c, by simp, rfl, .inl rfl⟩
    · refine .inr ⟨(c :: d :: rest).getD (Config.orderChoice s.free % ((d :: rest).length + 1)) c, ?_, rfl, .inr rfl⟩
      have hlt : Config.orderChoice s.free % ((d :: rest).length + 1) < (c :: d :: rest).length := Nat.mod_lt _ (by simp)
      rw [List.getD_eq_getElem?_getD, List.getElem?_eq_getElem hlt]
      exact List.getElem_mem hlt

end Sys2Proof.Machine
end

