-- ==== Sys2Proof/Tests/Slice0.lean ====
section
/-! SUPPORT. Tests on single commands, with results from the manual's worked sequences and tables, and for each statement
that has hypotheses a witness that they can be met, clause by clause. -/

open Sys2Proof Sys2Proof.Machine

namespace Sys2Proof.Tests

set_option Elab.async false

/-! ### Small states -/

/-- The state a command answers. -/
def after (c : Instr) (s : State) : State :=
  match exec c s with
  | .next t => t
  | .fault _ => s
  | .refused _ => s

/-- Node A of section 1.10 (00A310), strapped 0550 as in section 11.6, running on a quiet line. -/
def live : State :=
  { State.reset with
    phase := .running
    straps := 0x550
    sched := { State.reset.sched with probe := some 100 }
    table := { State.reset.table with agingMinute := some 960000 }
    election := { State.reset.election with generationTimer := some 480000, ageSecond := some 16000 }
    light := { State.reset.light with fadeTick := some 400, sampling := some 160, counter := 524, buffered := 524, active := 524 }
    climate := { State.reset.climate with
      sampleTimer := some 160000, warmthTimer := some 960000, rosterSecond := some 16000, controlTimer := some 960000 }
    line := { State.reset.line with framer := .ready, level := .idle 25600 } }

/-- In listen-only. -/
def listening : State :=
  { live with
    phase := .listenOnly
    election := { live.election with generationTimer := none }
    climate := { live.climate with warmthTimer := none }
    line := { live.line with listenOnly := some 32000 } }

/-- In step 1 of start-up. -/
def waiting : State := after (.resetRelease 0x550) State.reset

/-- In step 4, right before listen-only. -/
def restored : State := after .oscillatorWaitEnd waiting

/-- A round in a phase, opened by 00A322 at depth 20, this node a listener, the slot timer at a slot and tick. -/
def following (phase : RoundPhase) (slot tick : Nat) : State :=
  { live with
    round := ⟨phase, [⟨0x00A322, 20, 1⟩], none, false, ⟨true, 0, tick, slot, false, 0, 0⟩, none⟩ }

/-- The round of section 1.10 at node A: positions 1 to 3, A first, output level 700. -/
def probing (phase : RoundPhase) (slot : Nat) : State :=
  { live with
    light := { live.light with occupancy := .occupied, holdTimer := some 100, target := 700, output := 700, buffered := 874 }
    sched := { live.sched with state := .probing, probe := none }
    round := ⟨phase, [⟨0x00A310, 40, 1⟩, ⟨0x00A322, 20, 2⟩, ⟨0x00A35C, 60, 3⟩], some 1, false,
      ⟨true, 0, 0, slot, false, 0, 0⟩, if phase = .chips then some ⟨700, 700, 660⟩ else none⟩ }

/-- A queue and its contention state; the entries are numbered in queue order. -/
def queued (requests : List Request) (contention : Contention) (s : State) : State :=
  { s with
    line := { s.line with
      queue := requests.mapIdx (fun i r => ⟨r, i⟩), contention := contention, entries := requests.length } }

/-- The head's notice being sent. -/
def sending (attempts : Nat) (r : Request) (body : Body) (s : State) : State :=
  queued [r] (.fixed (min 7 (3 + (attempts - 1))) attempts (.sending ⟨0x00A310, body⟩ 6400))
    { s with line := { s.line with level := .busy } }

/-- Entries in the first slots. -/
def slots (n : Nat) {α : Type} (entries : List α) : List (Option α) :=
  entries.map some ++ List.replicate (n - entries.length) none

/-- The entry of P (00C0F4) at node N (section 4.10). -/
def entryP (seen told : Option Nat) (link : Link) : Entry := ⟨0x00C0F4, seen, none, told, link, none, 0⟩

/-- The table with some entries. -/
def holding (entries : List Entry) : State := { live with table := { live.table with slots := slots 16 entries } }

/-! ### Start-up -/

/-- The strap word of section 11.6. -/
theorem test_reset_release_latches_0550 :
    waiting.phase = .oscillatorWait ∧ waiting.straps.toNat = 0x400 + 0x100 + 0x40 + 0x10 ∧ waiting.terminal = true ∧
    waiting.sensClass = 1 ∧ waiting.depth = 40 ∧ waiting.gain = 1 ∧ waiting.light.buffered = 524 := by decide +kernel

theorem test_oscillator_wait_end_starts_the_hold : restored.zone.hold = some (seconds 90) := by decide +kernel

/-- The first probe timer lies between 2 s and 10 s (R45). -/
theorem test_start_of_listen_only_loads_the_probe_timer :
    ∃ left ∈ (after .startOfListenOnly restored).sched.probe, 32000 ≤ left ∧ left ≤ 160000 := by decide +kernel

/-- The first CLAIM is queued at the end of listen-only (R105). -/
theorem test_end_of_listen_only_queues_a_claim :
    (after .endOfListenOnly listening).line.queue = [⟨.claim, 0⟩] ∧
    (after .endOfListenOnly listening).election.derived = ⟨0x00A310, 0, 0⟩ := by decide +kernel

theorem test_reset_keeps_the_pages : (after .reset live).memory.nv = live.memory.nv := by decide +kernel

/-! ### Rounds (section 1.10) -/

theorem test_call_anchors_the_round :
    (after (.call 0x00A322 20) live).round.probers = [⟨0x00A322, 20, 1⟩] ∧
    (after (.call 0x00A322 20) live).round.phase = .opening := by decide +kernel

/-- A CALL of a depth other than the four is discarded at step 8 (section 9.9). -/
theorem test_call_of_depth_30_is_discarded :
    (after (.call 0x00A322 30) live).round.phase = .none ∧ (after (.call 0x00A322 30) live).line.counters.badNotices = 0 := by
  decide +kernel

/-- C's JOIN goes to position 3; a repeated position marks the view disordered (R15). -/
theorem test_join_appends_or_disorders :
    (after (.join 0x00A35C 60 2) (following .opening 4 0)).round.probers = [⟨0x00A322, 20, 1⟩, ⟨0x00A35C, 60, 2⟩] ∧
    (after (.join 0x00A35C 60 3) (following .opening 4 0)).round.disordered = true := by decide +kernel

/-- D's request is withdrawn at the start of slot 12. -/
theorem test_guard_start_withdraws :
    (after .guardStart (queued [.callJoin] .unfixed (following .opening 11 127))).line.queue = [] := by decide +kernel

/-- A: base 700, depth 40, H 700, L 660; B: base 0, depth 20, H 20, L 0. -/
theorem test_start_of_chips_sets_the_levels :
    (after .startOfChips (probing .opening 16)).round.override = some ⟨700, 700, 660⟩ ∧ chipLevels 0 20 = ⟨0, 20, 0⟩ := by
  decide +kernel

/-- P1: chip 0 is "+", chip 1 is "−": 700, then 660. -/
theorem test_chip_signals_of_p1 :
    (after (.chipSignal 0) (probing .chips 16)).light.buffered = 524 + 350 ∧
    (after (.chipSignal 1) (probing .chips 16)).light.buffered = 524 + 330 := by decide +kernel

theorem test_start_of_settle_ends_the_override :
    (after .startOfSettle (probing .chips 31)).round.override = none ∧
    (after .startOfSettle (probing .chips 31)).light.output = 700 := by decide +kernel

theorem test_round_close_rests_the_scheduler :
    (after .roundClose (probing .settle 33)).sched.state = .resting ∧
    (after .roundClose (probing .settle 33)).round.phase = .none := by decide +kernel

/-! ### Sensing (section 2.7) -/

/-- What SAMPLING holds after sixteen chip sums. -/
def sampled (sums : List Nat) : Sampling :=
  sums.foldl Sampling.addChip (Sampling.start [⟨0x00A322, 40, 1⟩] none)

/-- The chip sums of the first worked case. -/
def daylight (passer : Nat) : List Nat :=
  (List.range 16).map (fun j =>
    8000 + 4 * j + (if j ∈ [0, 3, 4, 7, 8, 11, 12, 15] then 120 else 0) + if j = 5 then passer else 0)

/-- S is 920, N is 40, and the index 700; without the passer-by 750. -/
theorem test_one_prober_and_a_passer_by :
    (sampled (daylight 40)).accs.getD 0 0 = 920 ∧ (sampled (daylight 40)).nullAcc = 40 ∧
    (sampled (daylight 40)).findingOf 1 ⟨0x00A322, 40, 1⟩ = .index 700 ∧
    (sampled (daylight 0)).findingOf 1 ⟨0x00A322, 40, 1⟩ = .index 750 := by decide +kernel

/-- A shadow of 400 on chips 5 and 6: S 1760, N −800, NOISY. -/
theorem test_a_shadow_across_two_chips :
    let sums := (daylight 0).mapIdx (fun j c => if j = 5 ∨ j = 6 then c - 400 else c)
    (sampled sums).accs.getD 0 0 = 1760 ∧ (sampled sums).nullAcc = -800 ∧
    (sampled sums).findingOf 1 ⟨0x00A322, 40, 1⟩ = .noisy := by decide +kernel

/-- The Sense Unit in SAMPLING. -/
def sampling (codes : List AdcCode) : State :=
  { following .chips 16 0 with
    sense := { live.sense with
      round := .sampling { Sampling.start [⟨0x00A322, 20, 1⟩] none with codes := codes }, lightConverting := true } }

/-- Four conversions make one chip sum (R33). -/
theorem test_light_conversion_end_forms_the_chip_sum :
    (match (after (.lightConversionEnd 2001) (sampling [2000, 2000, 2000])).sense.round with
      | .sampling d => decide (d.sums = [8001] ∧ d.codes = [] ∧ d.chip = 1)
      | _ => false) = true := by decide +kernel

theorem test_chip_sample_starts_a_conversion :
    (after .chipSample { sampling [] with sense := { (sampling []).sense with lightConverting := false } }).round.timer.tick
      = 40 := by decide +kernel

/-- The converter does one conversion at a time (R26): a sample finds a temperature conversion at work, a burst a light one. -/
theorem test_one_conversion_at_a_time :
    let busy : State := { sampling [] with sense := { (sampling []).sense with lightConverting := false, burst := some ⟨[], true⟩ } }
    (after .chipSample busy).sense.lightConverting = false ∧
    (after .sampleTimerExpiry { live with sense := { live.sense with lightConverting := true } }).sense.burst
      = some ⟨[], false⟩ := by decide +kernel

/-- The burst of section 8.7: trim −3, reading 242. -/
def burst : State :=
  { live with
    sense := { live.sense with burst := some ⟨[1815, 1814, 1816, 1815, 1813, 1817, 1816], true⟩ }
    memory := { live.memory with nv := live.memory.nv.write 3 0x83 } }

theorem test_temperature_burst_reads_242 :
    (after (.temperatureConversionEnd 1818) burst).climate.reading = some 242 ∧
    (after (.temperatureConversionEnd 1818) burst).climate.readingHold = some (seconds 180) ∧
    entriesOf (after (.temperatureConversionEnd 1818) burst).climate.roster = [⟨0x00A310, 242, 0⟩] := by decide +kernel

theorem test_temperature_burst_with_4095_is_invalid :
    (after (.temperatureConversionEnd 4095) burst).climate.reading = none := by decide +kernel

theorem test_sample_timer_expiry_asks_for_a_burst :
    (after .sampleTimerExpiry live).sense.burst = some ⟨[], true⟩ ∧
    (after .sampleTimerExpiry (following .chips 20 0)).sense.burst = some ⟨[], false⟩ := by decide +kernel

/-! ### Probe scheduling (section 3.6) -/

/-- F's probe timer expires in CHIPS: CLOSE-WAIT with a deadline of 60 s; on an idle view the request is queued. -/
theorem test_probe_timer_expiry_waits_for_the_close :
    (after .probeTimerExpiry (following .chips 20 0)).sched.wait = some .closeWait ∧
    (after .probeTimerExpiry (following .chips 20 0)).sched.deadline = some (seconds 60) ∧
    (after .probeTimerExpiry live).line.queue.map (fun q => q.request) = [.callJoin] := by decide +kernel

/-- WANTING in some wait. -/
def wanting (wait : Wait) (s : State) : State :=
  { s with
    sched := { s.sched with
      state := .wanting, probe := none, wait := some wait, deadline := some 960000,
      retry := if wait = .delay then some 100 else none } }

theorem test_retry_delay_expiry_queues_the_request :
    (after .retryDelayExpiry (wanting .delay (following .opening 6 0))).sched.wait = some .queued := by decide +kernel

theorem test_want_deadline_expiry_counts_a_missed_turn :
    (after .wantDeadlineExpiry (queued [.callJoin] .unfixed (wanting .queued live))).line.counters.missedTurns = 1 ∧
    (after .wantDeadlineExpiry (queued [.callJoin] .unfixed (wanting .queued live))).line.queue = [] := by decide +kernel

/-- At 600 s the brisk timer expires and the probe timer is kept with 12.40 s. -/
theorem test_brisk_timer_expiry_keeps_the_probe_timer :
    (after .briskTimerExpiry { live with sched := { live.sched with probe := some 198400 } }).sched.probe = some 198400 ∧
    (after .briskTimerExpiry live).sched.mode = .normal := by decide +kernel

/-- In NORMAL. -/
def normal (s : State) : State := { s with sched := { s.sched with mode := .normal, brisk := none } }

theorem test_stir_of_a_neighbour_enters_brisk :
    (after (.stir 0x00C0F4 1) (normal (holding [entryP none none .apart]))).sched.brisk = some (seconds 600) ∧
    (after (.stir 0x00C0F4 1) (normal live)).sched.mode = .normal := by decide +kernel

/-- 90 minutes are taken as 60, 5 as the 600 s of R47. -/
theorem test_survey_limits_its_minutes :
    (after (.survey 0xF00001 90) (normal live)).sched.brisk = some (seconds 3600) ∧
    (after (.survey 0xF00001 5) (normal live)).sched.brisk = some (seconds 600) := by decide +kernel

/-! ### Neighbour table (section 4.10), class 1: J 360, L 220 -/

/-- Round 3: P's TALLY names N with 395: RISING; round 4, 402 seen: LINKED, with a link up. -/
theorem test_link_rises_and_links :
    slotAt (after (.tally 0x00C0F4 [(0x00A310, 395)]) (holding [entryP (some 410) (some 310) .apart])).table.slots 0
      = some (entryP (some 410) (some 395) .rising) ∧
    (slotAt (storeSeen 0 402 (holding [entryP (some 410) (some 395) .rising])).table.slots 0).map (fun e => e.link)
      = some .linked := by decide +kernel

/-- A TALLY of a tool is ignored (R200). -/
theorem test_tally_of_a_tool_is_ignored :
    (after (.tally 0xF00001 [(0x00A310, 395)]) live).table = live.table := by decide +kernel

/-- 110 > 75 is a shift, 8 is not, 265 > 101 is. -/
theorem test_shifts : isShift 410 300 = true ∧ isShift 402 410 = false ∧ isShift 140 405 = true := by decide +kernel

/-- A full table: twelve linked entries and the four unlinked ones of section 4.10. -/
def full : State :=
  holding ((List.range 16).map (fun i =>
    if i = 4 then ⟨0x00C1A0, some 96, none, none, .apart, none, 0⟩
    else if i = 9 then ⟨0x00C1B4, some 240, none, some 255, .rising, none, 0⟩
    else if i = 11 then ⟨0x00C1C8, some 80, none, some 96, .apart, none, 0⟩
    else if i = 13 then ⟨0x00C1DC, some 410, none, some 120, .apart, none, 0⟩
    else ⟨BitVec.ofNat 24 (0xC000 + i), some 500, none, some 500, .linked, none, 0⟩))

/-- Seen 150 takes slot 4; told 90 and seen 96 after it are discarded and counted. -/
theorem test_a_full_table :
    let first := admission 0x00C2A0 .seen 150 full
    slotAt first.table.slots 4 = some ⟨0x00C2A0, some 150, none, none, .apart, none, 0⟩ ∧
    (admission 0x00C2B8 .told 90 first).line.counters.tableOverflows = 1 ∧
    (admission 0x00C2CC .seen 96 first).table = first.table ∧ admission 0x00C2CC .seen 50 first = first := by decide +kernel

/-- The TALLY of section 4.10: X 410, N 612 (self), Y 18 not held, Z 9 held; noisy, two items of F001. -/
theorem test_a_tally_from_one_round :
    let s := holding [⟨0x00C0A8, none, none, none, .apart, none, 0⟩, ⟨0x00C3F2, none, none, none, .apart, none, 0⟩]
    [(⟨0x00C0A8, 1, .index 410⟩ : ProbeResult), ⟨0x00A310, 2, .index 612⟩, ⟨0x00C3E0, 3, .index 18⟩, ⟨0x00C3F2, 4, .index 9⟩].filterMap
      s.tallyItem = [(0x00C0A8, 410), (0x00A310, 612), (0x00C3F2, 9)] ∧
    [(⟨0x00C0A8, 1, .noisy⟩ : ProbeResult), ⟨0x00A310, 2, .noisy⟩, ⟨0x00C3E0, 3, .noisy⟩].filterMap s.tallyItem
      = [(0x00C0A8, 0xF001)] := by decide +kernel

theorem test_aging_minute_removes_at_15 :
    entriesOf (after .agingMinute (holding [⟨0x00C0F4, some 100, none, none, .apart, none, 14⟩])).table.slots = [] ∧
    (entriesOf (after .agingMinute (holding [⟨0x00C0F4, some 100, none, none, .apart, none, 13⟩])).table.slots).map
      (fun e => e.quiet) = [14] := by decide +kernel

theorem test_stir_spacing_expiry_stops :
    (after .stirSpacingExpiry { live with table := { live.table with stirSpacing := some 0 } }).table.stirSpacing = none := by
  decide +kernel

/-! ### Zone election (section 5.7) and the working zone (section 6.7) -/

/-- Node V of the wave: linked to U, root 00D010 at 42 in its list, U's CLAIM at 41 held. -/
def nodeV : State :=
  { live with
    memory := { live.memory with nv := [(0, 0x00), (1, 0xD0), (2, 0x38), (3, 0x00)] }
    table := { live.table with slots := slots 16 [⟨0x00D024, some 400, none, some 400, .linked, some ⟨0x00D010, 1, 41⟩, 0⟩] }
    election := { live.election with
      roots := slots 16 [⟨0x00D010, 42, 235, 30, 0⟩], derived := ⟨0x00D010, 2, 41⟩, parent := some 0x00D024,
      generationTimer := none, announced := some ⟨0x00D010, 2, 41⟩ }
    zone := { live.zone with working := 0x00D010, derivedCopy := 0x00D010 } }

/-- V takes U's CLAIM of 1/42: it derives 2/42 and queues a CLAIM. -/
theorem test_claim_carries_the_wave :
    (after (.claim 0x00D024 0x00D010 1 42 none) nodeV).election.derived = ⟨0x00D010, 2, 42⟩ ∧
    (after (.claim 0x00D024 0x00D010 1 42 none) nodeV).line.queue.map (fun q => q.request) = [.claim] := by decide +kernel

/-- A hops-0 CLAIM whose root is not its sender is discarded (section 9.9). -/
theorem test_claim_of_another_root_is_discarded :
    (after (.claim 0x00C524 0x00C510 0 1 (some (235, 30))) live).election.roots = live.election.roots := by decide +kernel

theorem test_age_second_removes_at_100 :
    entriesOf (after .ageSecond { nodeV with election := { nodeV.election with
      roots := slots 16 [⟨0x00D010, 42, 235, 30, 99⟩] } }).election.roots = [] := by decide +kernel

theorem test_generation_timer_expiry_advances :
    (after .generationTimerExpiry live).election.derived = ⟨0x00A310, 0, 1⟩ := by decide +kernel

theorem test_claim_spacing_expiry_announces :
    (after .claimSpacingExpiry { live with election := { live.election with claimSpacing := some 0 } }).line.queue.map
      (fun q => q.request) = [.claim] := by decide +kernel

/-- S's settle timer expires: the working root becomes 00E010 and the save starts. -/
def settling : State :=
  { live with zone := { live.zone with working := 0x00A050, derivedCopy := 0x00A010, settle := some 0 } }

theorem test_settle_timer_expiry_changes_the_zone :
    (after .settleTimerExpiry settling).zone.working = 0x00A010 ∧
    (after .settleTimerExpiry settling).memory.engine = .saving 0 := by decide +kernel

theorem test_start_up_hold_end_starts_the_settle_timer :
    (after .startUpHoldEnd { settling with zone := { settling.zone with settle := none, hold := some 0 } }).zone.settle
      = some (seconds 60) := by decide +kernel

/-! ### Lighting (section 7.7) -/

/-- A window about to end, with some active samples so far. -/
def window (active : Nat) : State := { live with light := { live.light with windowCount := 99, activeCount := active } }

/-- 18 active samples do not qualify; 30 do, from VACANT with a PRESENCE. -/
theorem test_occupancy_windows :
    (after (.occupancySample true) (window 17)).light.occupancy = .vacant ∧
    (after (.occupancySample true) (window 29)).light.occupancy = .occupied ∧
    (after (.occupancySample true) (window 29)).line.queue.map (fun q => q.request) = [.presence] := by decide +kernel

/-- Strapped for pulse mode. -/
def pulse : State := { live with straps := 0x552 }

theorem test_rising_edge_starts_the_lockout :
    (after .risingEdge pulse).light.lockout = some (seconds 1) ∧ (after .risingEdge pulse).light.held = true ∧
    (after .lockoutExpiry (after .risingEdge pulse)).light.held = false := by decide +kernel

/-- A low sample and the next one high are an edge; a first sample high, and a second high one, are none (R122). -/
theorem test_pulse_samples_find_the_edge :
    let low := after (.occupancySample false) { pulse with light := { pulse.light with sampled := some true } }
    low.light.occupancy = .vacant ∧ low.light.sampled = some false ∧
    (after (.occupancySample true) low).light.occupancy = .occupied ∧
    (after (.occupancySample true) pulse).light.occupancy = .vacant ∧
    (after (.occupancySample true) { pulse with light := { pulse.light with sampled := some true } }).light.occupancy
      = .vacant := by decide +kernel

/-- J1's PRESENCE at J2: OCCUPIED, 700, hold 300 s; naming another zone it is disregarded. -/
theorem test_presence_occupies_the_zone :
    (after (.presence 0x00E14A 0x00A310) live).light.target = 700 ∧
    (after (.presence 0x00E14A 0x00A310) live).light.holdTimer = some (seconds 300) ∧
    (after (.presence 0x00E14A 0x00A311) live).light.occupancy = .vacant := by decide +kernel

/-- The zone in a state, with its timer. -/
def zoned (occupancy : Occupancy) : State :=
  { live with
    light := { live.light with
      occupancy := occupancy, target := targetOf occupancy 700
      holdTimer := if occupancy = .occupied then some 0 else none
      graceTimer := if occupancy = .grace then some 0 else none } }

/-- J2's hold expires: GRACE, 233, 120 s; then VACANT, 0. -/
theorem test_hold_and_grace_expire :
    (after .holdTimerExpiry (zoned .occupied)).light.target = 233 ∧
    (after .holdTimerExpiry (zoned .occupied)).light.graceTimer = some (seconds 120) ∧
    (after .graceTimerExpiry (zoned .grace)).light.target = 0 := by decide +kernel

/-- The hold timer has expired at the tick that also brings a sample of the pin and a fade tick. -/
def heldOut : State :=
  { zoned .grace with
    light := { (zoned .grace).light with graceTimer := some (seconds 120), sampling := some 0, fadeTick := some 0, output := 700 } }

/-- No fade step falls between the hold expiry and the sample (R132); without a sample the fade tick is due. -/
theorem test_no_fade_step_at_a_grace_of_no_time :
    heldOut.due = [.occupancySample false] ∧
    ({ heldOut with light := { heldOut.light with sampling := some 160 } } : State).due = [.fadeTick] := by decide +kernel

theorem test_presence_spacing_expiry_stops :
    (after .presenceSpacingExpiry { live with light := { live.light with presenceSpacing := some 0 } }).light.presenceSpacing
      = none := by decide +kernel

/-- A switch-on steps to 10; the last step of the dimming is 1 (234 to 233); in CHIPS nothing moves. -/
theorem test_fade_ticks :
    (after .fadeTick { live with light := { live.light with target := 700 } }).light.output = 10 ∧
    (after .fadeTick { live with light := { live.light with target := 233, output := 234 } }).light.output = 233 ∧
    (after .fadeTick { following .chips 17 0 with light := { live.light with target := 700 } }).light.output = 0 := by
  decide +kernel

/-- C is 690 at level 333, 695 at 343 and 700 at 353 for R 524, and 34 at level 10 for R 24. -/
theorem test_compares :
    compareOf 524 333 = 690 ∧ compareOf 524 343 = 695 ∧ compareOf 524 353 = 700 ∧ compareOf 24 10 = 34 := by decide

theorem test_pwm_reload_and_compare_match :
    (after .pwmReload (probing .opening 0)).light.active = 874 ∧ (after .pwmReload (probing .opening 0)).light.drive = true ∧
    (after .pwmReload live).light.drive = false ∧ (after .compareMatch live).light.drive = false := by decide +kernel

/-! ### Climate (section 8.7) -/

/-- Terminal node S of section 8.7 at its control step, its station replaced by node A's. -/
def west (occupancy : Occupancy) (damper : Nat) : State :=
  { live with
    election := { live.election with roots := slots 16 [⟨0x00A010, 50, 235, 30, 0⟩] }
    zone := { live.zone with working := 0x00A010 }
    light := { live.light with occupancy := occupancy }
    climate := { live.climate with
      damper := damper
      roster := slots 24 [⟨0x00A310, 239, 6⟩, ⟨0x00A010, 246, 41⟩, ⟨0x00A02C, 241, 17⟩, ⟨0x00A03E, 248, 55⟩, ⟨0x00A0A2, 241, 29⟩] } }

/-- M 243, demand 124: 90 to 114, and 114 to 124. -/
theorem test_control_steps :
    (after .controlStep (west .occupied 90)).climate.damper = 114 ∧
    (after .controlStep (west .occupied 90)).climate.lastMean = some 243 ∧
    (after .controlStep (west .occupied 114)).climate.damper = 124 := by decide +kernel

/-- VACANT raises the setpoint to 265 and closes the damper by 24 codes a step, down to 38. -/
theorem test_control_steps_in_an_empty_room :
    (after .controlStep (west .vacant 124)).climate.damper = 100 ∧ (after .controlStep (west .vacant 52)).climate.damper = 38 := by
  decide +kernel

/-- A WARMTH of 950 passes and is disregarded (section 9.9); one of 228 is written. -/
theorem test_warmth_is_written_or_disregarded :
    (after (.warmth 0x00A322 0x00A310 950) live).climate.roster = live.climate.roster ∧
    entriesOf (after (.warmth 0x00A322 0x00A310 228) live).climate.roster = [⟨0x00A322, 228, 0⟩] := by decide +kernel

/-- With a reading present. -/
def reading (s : State) : State := { s with climate := { s.climate with reading := some 242, readingHold := some 0 } }

theorem test_reading_hold_expiry_withdraws_the_warmth :
    (after .readingHoldExpiry (queued [.warmth] .unfixed (reading live))).line.queue = [] ∧
    (after .readingHoldExpiry (queued [.warmth] .unfixed (reading live))).climate.reading = none := by decide +kernel

theorem test_warmth_timer_expiry_queues :
    (after .warmthTimerExpiry (reading live)).line.queue.map (fun q => q.request) = [.warmth] ∧
    (after .warmthTimerExpiry live).line.queue = [] := by decide +kernel

theorem test_roster_second_removes_at_180 :
    entriesOf (after .rosterSecond { live with climate := { live.climate with
      roster := slots 24 [⟨0x00A322, 200, 179⟩, ⟨0x00A35C, 200, 178⟩] } }).climate.roster = [⟨0x00A35C, 200, 179⟩] := by
  decide +kernel

/-! ### The ceiling line (section 9.9) -/

/-- Over 31 32 … 39 the computation gives 29B1 (R164). -/
theorem test_check_of_the_nine_digits :
    crc16 [0x31, 0x32, 0x33, 0x34, 0x35, 0x36, 0x37, 0x38, 0x39] = 0x29B1 := by decide +kernel

/-- Lengths of R165: a TALLY of 3 items has 24 bytes, a CLAIM 13 or 16. -/
theorem test_notice_lengths :
    (frameBytes ⟨0x00C102, .tally [(0x00C0A8, 410), (0x00C102, 612), (0x00C3F2, 9)]⟩).length = 24 ∧
    (frameBytes ⟨0x00C524, .claim 0x00C510 1 5 none⟩).length = 13 ∧
    (frameBytes ⟨0x00C524, .claim 0x00C524 0 5 (some (235, 30))⟩).length = 16 := by decide +kernel

/-- The first bytes of both CLAIMs of section 9.9: C3, 41, 00, C5, then 24. -/
theorem test_claim_bytes :
    (frameBytes ⟨0x00C524, .claim 0x00C510 1 5 none⟩).take 5 = [0xC3, 0x41, 0x00, 0xC5, 0x24] := by decide +kernel

/-- GUARD_START has been taken. -/
def guarded (s : State) : State := { s with round := { s.round with timer := { s.round.timer with guardPassed := true } } }

/-- A line-win at the start of slot 12 decides at slot 11 while GUARD_START is not taken, and is a withdrawal after it (R20). -/
theorem test_line_win_at_the_start_of_slot_12 :
    let s := wanting .queued (queued [.callJoin] (.fixed 3 0 (.counting 0)) (following .opening 12 0))
    (after .lineWin s).line.contention = .fixed 3 1 (.sending ⟨0x00A310, .join 40 2⟩ (10 * byteTime)) ∧
    (after .lineWin (guarded s)).line.queue = [] := by decide +kernel

/-- The queue of section 9.9, its head fixed; the entries are t1 to t8 as 1 to 8. -/
def fullQueue : State :=
  { live with
    line := { live.line with
      queue := [⟨.tally [(1, 1)], 1⟩, ⟨.stir 1, 2⟩, ⟨.tally [(2, 2)], 6⟩, ⟨.claim, 4⟩, ⟨.presence, 3⟩, ⟨.warmth, 5⟩,
        ⟨.answer 1 [], 7⟩, ⟨.answer 2 [], 8⟩]
      contention := .fixed 3 0 (.counting 6400), entries := 9 } }

/-- CLAIM, CALL/JOIN, TALLY c, WARMTH and ANSWER z offered in turn leave the queue of section 9.9 and three refusals. -/
theorem test_a_full_queue :
    let s := [Request.claim, .callJoin, .tally [(3, 3)], .warmth, .answer 3 []].foldl (fun s r => offer r s) fullQueue
    s.line.queue.map (fun q => q.request) =
      [.tally [(1, 1)], .callJoin, .stir 1, .tally [(2, 2)], .tally [(3, 3)], .claim, .presence, .warmth] ∧
    s.line.counters.queueRefusals = 3 := by decide +kernel

theorem test_head_fixing_draws_with_exponent_3 :
    (match (after .headFixing (queued [.claim] .unfixed live)).line.contention with
      | .fixed 3 0 (.counting units) => decide (units ≤ 7 * byteTime)
      | _ => false) = true := by decide +kernel

/-- R's line-win: body (root, 0, generation, setpoint 235, setback 30); A's request goes out as CALL depth 40. -/
theorem test_line_win_builds_the_body :
    (after .lineWin (queued [.claim] (.fixed 3 0 (.counting 0)) live)).line.contention =
      .fixed 3 1 (.sending ⟨0x00A310, .claim 0x00A310 0 0 (some (235, 30))⟩ (16 * byteTime)) ∧
    (after .lineWin (queued [.callJoin] (.fixed 3 0 (.counting 0)) live)).line.contention =
      .fixed 3 1 (.sending ⟨0x00A310, .call 40⟩ (9 * byteTime)) := by decide +kernel

/-- The start byte C3, 1100 0011, on the line: start bit, 1 1 0 0 0 0 1 1, stop bit (R162); it begins at the line-win. -/
theorem test_bits_of_the_start_byte :
    byteBits 0xC3 = [.dominant, .recessive, .recessive, .dominant, .dominant, .dominant, .dominant, .recessive, .recessive,
      .recessive] ∧
    (after .lineWin (queued [.claim] (.fixed 3 0 (.counting 0)) live)).drives = .dominant ∧
    (queued [.claim] (.fixed 3 0 (.counting 0)) live).drives = .recessive := by decide +kernel

/-- A loss raises e from 3 to 4; the 16th drops the request. -/
theorem test_loss_raises_the_exponent :
    (after .loss (sending 1 .claim (.claim 0x00A310 0 0 (some (235, 30))) live)).line.contention = .fixed 4 1 .lost ∧
    (after .loss (sending 16 .claim (.claim 0x00A310 0 0 (some (235, 30))) live)).line.counters.lineDrops = 1 := by
  decide +kernel

/-- The own CALL is looped back and opens the round; a CLAIM's completion starts the spacing timer. -/
theorem test_notice_completion_loops_back :
    (after .noticeCompletion (sending 1 .callJoin (.call 40) (wanting .queued live))).round.probers = [⟨0x00A310, 40, 1⟩] ∧
    (after .noticeCompletion (sending 1 .callJoin (.call 40) (wanting .queued live))).sched.state = .probing ∧
    (after .noticeCompletion (sending 1 .claim (.claim 0x00A310 0 0 (some (235, 30))) live)).election.claimSpacing
      = some (seconds 1) := by decide +kernel

theorem test_start_bit_pauses_and_idle_resumes :
    (after .lineStartBit (queued [.claim] (.fixed 3 0 (.counting 640)) live)).line.contention = .fixed 3 0 (.paused 640) ∧
    (after .backoffResume (queued [.claim] (.fixed 3 0 (.paused 640)) live)).line.contention = .fixed 3 0 (.counting 640) := by
  decide +kernel

theorem test_framer_first_idle :
    (after .framerFirstIdle { live with line := { live.line with framer := .awaitingIdle } }).line.framer = .ready := by
  decide +kernel

/-- The busy minute: first byte C1, too short, body length 41 and a false check are counted; kind 70 and TALLY of 7 items
are not. -/
theorem test_a_busy_minute :
    judge ⟨0xC1 :: List.replicate 11 0, false⟩ = .counted ∧
    judge ⟨[0xC3, 0x11, 0, 0xA3, 0x22, 1, 40], false⟩ = .counted ∧
    judge ⟨[0xC3, 0x11, 0, 0xA3, 0x22, 41, 40, 0, 0], false⟩ = .counted ∧
    judge ⟨[0xC3, 0x11, 0, 0xA3, 0x22, 1, 40, 0, 0], false⟩ = .counted ∧
    judge ⟨frameBytes ⟨0, .stir 1⟩, false⟩ = .counted ∧
    judge ⟨0xC3 :: 0x70 :: 0 :: 0xA3 :: 0x22 :: 0 :: halfBytes (crc16 [0x70, 0, 0xA3, 0x22, 0]), false⟩ = .uncounted ∧
    judgeNotice ⟨0x00C524, .tally (List.replicate 7 (0x00C510, 1))⟩ = .uncounted := by decide +kernel

theorem test_discarded_notice_is_counted :
    (after (.discardedNotice ⟨[0xC1], false⟩) live).line.counters.badNotices = 1 := by decide +kernel

theorem test_answer_is_handed_to_no_block :
    (after (.answer 0x00A322 7 (List.replicate 16 0)) live).line.counters = live.line.counters ∧
    (after (.answer 0x00A322 7 (List.replicate 16 0)) live).line.queue = [] := by decide +kernel

/-! ### Service and Zone Memory (sections 10.7 and 11.6) -/

/-- Page 0 of a node that derived 00A010 by 00A02C while its zone still is 00A050, 30.37 s before the settle timer's
expiry: 31 s, BRISK, strap word 0550. -/
theorem test_page_0 :
    ({ live with
        zone := { live.zone with working := 0x00A050, derivedCopy := 0x00A010, settle := some 485920 }
        election := { live.election with derived := ⟨0x00A010, 2, 90⟩, parent := some 0x00A02C }
        sense := { live.sense with lastSelf := some (.index 612) } } : State).pageContent 0 =
      [0x00, 0xA0, 0x50, 0x00, 0xA0, 0x10, 2, 90, 0x00, 0xA0, 0x2C, 31, 1, 0, 0, 0x02, 0x64, 0x05, 0x50] := by decide +kernel

theorem test_ask_queues_an_answer :
    (after (.ask 0xF00001 0x00A310 8) live).line.queue.length = 1 ∧ (after (.ask 0xF00001 0x00A311 8) live).line.queue = [] := by
  decide +kernel

/-- SET item 2, value 225, waits on the rest timer; 400 is clamped to 300. -/
theorem test_set_clamps_and_waits :
    let resting : State := { live with memory := { live.memory with rest := some 100 } }
    (after (.set 0xF00001 0x00A310 2 225) resting).climate.setpoint = 225 ∧
    (after (.set 0xF00001 0x00A310 2 225) resting).memory.pendingSave = true ∧
    (after (.set 0xF00001 0x00A310 2 400) live).climate.setpoint = 300 := by decide +kernel

/-- The snapshot of section 10.7: working root 00E010, 235, 30, 700, one link 00E02C of pair value 376, checksum 0497. -/
theorem test_snapshot :
    ({ holding [⟨0x00E02C, some 392, none, some 376, .linked, none, 0⟩] with
        zone := { live.zone with working := 0x00E010 } } : State).snapshotNow =
      [0x5A, 0x00, 0xE0, 0x10, 0x00, 0xEB, 0x1E, 0x02, 0xBC, 1, 0x00, 0xE0, 0x2C, 0x01, 0x78] ++ List.replicate 75 0 ++
        [0x04, 0x97] := by decide +kernel

/-- FORGET 12 ms into a save: it is marked, and the clear begins after the save. -/
theorem test_forget_during_a_save :
    let saving : State := { live with memory := { live.memory with engine := .saving 192, snapshot := some live.snapshotNow } }
    (after (.forget 0xF00001 0x00A310) saving).memory.pendingClear = true ∧
    (after .saveCompletion (after (.forget 0xF00001 0x00A310) saving)).memory.engine = .clearing 0 := by decide +kernel

/-- A save writes a good record; a clear leaves none. -/
theorem test_save_and_clear_completions :
    let saving : State := { live with memory := { live.memory with engine := .saving 576, snapshot := some live.snapshotNow } }
    (after .saveCompletion saving).memory.nv.goodRecord = true ∧
    (after .saveCompletion saving).memory.rest = some (seconds 300) ∧
    (after .clearCompletion { saving with memory := { (after .saveCompletion saving).memory with engine := .clearing 384 } }).memory.nv.goodRecord
      = false := by decide +kernel

theorem test_rest_timer_expiry_starts_the_pending_save :
    (after .restTimerExpiry { live with memory := { live.memory with rest := some 0, pendingSave := true } }).memory.engine
      = .saving 0 := by decide +kernel

theorem test_link_hold_off_expiry_is_a_save_request :
    (after .linkHoldOffExpiry { live with memory := { live.memory with linkHoldOff := some 0 } }).memory.engine
      = .saving 0 := by decide +kernel

/-! ### WellFormed refuses the ill-formed -/

theorem test_tally_longer_than_a_frame_is_ill_formed :
    (Instr.tally 0x00A322 (List.replicate 8 (0x00A310, 1))).wellFormed = false ∧
    (Instr.tally 0x00A322 (List.replicate 7 (0x00A310, 1))).wellFormed = true := by decide +kernel

theorem test_answer_longer_than_a_frame_is_ill_formed :
    (Instr.answer 0x00A322 0 (List.replicate 40 0)).wellFormed = false ∧
    (Instr.answer 0x00A322 0 (List.replicate 39 0)).wellFormed = true := by decide +kernel

theorem test_discarded_notice_that_passes_is_ill_formed :
    (Instr.discardedNotice ⟨frameBytes ⟨0x00A322, .stir 1⟩, false⟩).wellFormed = false ∧
    (Instr.discardedNotice ⟨frameBytes ⟨0x00A322, .stir 1⟩, true⟩).wellFormed = true := by decide +kernel

/-! ### Witnesses: the hypotheses of each statement, clause by clause, met together -/

theorem witness_StepRunsTheFrontCommand : ({ live with pending := [.fadeTick] } : State).pending = [.fadeTick] := rfl

/-- Held and waiting; nothing due; one event due; two due. -/
theorem witness_IdleStepTakesADueEventOrOneCycle :
    (State.reset.pending = [] ∧ State.reset.phase = .held) ∧ (waiting.pending = [] ∧ waiting.phase = .oscillatorWait) ∧
    (live.pending = [] ∧ live.phase ≠ .held ∧ live.phase ≠ .oscillatorWait ∧ live.due = []) ∧
    ({ live with light := { live.light with fadeTick := some 0 } } : State).due = [.fadeTick] ∧
    ({ live with light := { live.light with fadeTick := some 0, lockout := some 0 } } : State).due
      = [.lockoutExpiry, .fadeTick] ∧ waiting.due = [] := by decide +kernel

theorem witness_GeneratorAdvanceAndDraws : 14 < 15 ∧ (0x8000#16 ≠ 0) ∧ lfsrNext 1 = lfsrNext 1 := by decide

/-- A page cycle cut 8 ms in, saving and clearing, and one cut a tick before over a good record. -/
theorem witness_ResetPutsEveryBlockInItsResetState :
    live.memory.engine = .idle ∧ live.memory.nv.wf = true ∧ milliseconds 8 ≤ 128 ∧
    ({ live with memory := { live.memory with engine := .saving 128 } } : State).memory.engine = .saving 128 ∧
    ({ live with memory := { live.memory with engine := .clearing 128 } } : State).memory.engine = .clearing 128 ∧
    (let good : ZoneMemory := { live.memory with nv := live.memory.nv.writeRecord live.snapshotNow, engine := .saving 127 };
      good.nv.wf = true ∧ 127 < milliseconds 8 ∧ good.engine = .saving 127 ∧ good.nv.goodRecord = true) := by
  decide +kernel

theorem witness_ResetReleaseLatchesTheStraps : State.reset.phase = .held ∧ live.phase ≠ .held := by decide +kernel

/-- Start-up with a good record. -/
def recorded : State :=
  { waiting with
    memory := { waiting.memory with
      nv := waiting.memory.nv.writeRecord
        (holding [⟨0x00A02C, some 392, none, some 376, .linked, none, 0⟩]).snapshotNow } }

theorem witness_OscillatorWaitEndRestoresAGoodRecord :
    (waiting.phase = .oscillatorWait ∧ waiting.memory.nv.goodRecord = false) ∧
    (recorded.phase = .oscillatorWait ∧ recorded.memory.nv.goodRecord = true ∧
      recorded.table.slots = List.replicate 16 none ∧ (0x00A02C, 376) ∈ recorded.memory.nv.recordLinks) := by decide +kernel

theorem witness_StartOfListenOnlyStartsTheTimers :
    restored.phase = .restored ∧ restored.round.phase = .none ∧ restored.sense.burst = none ∧
    restored.sense.lightConverting = false := by decide +kernel

theorem witness_EndOfListenOnlyDerivesAndAnnounces :
    listening.phase = .listenOnly ∧ listening.election.announced = none ∧ listening.election.claimSpacing = none := by
  decide +kernel

/-- The four phases, with the least and the greatest depth and the last node ID. -/
theorem witness_CallOpensDisordersOrIsIgnored :
    depthAllowed (20 : Byte).toNat ∧ depthAllowed (80 : Byte).toNat ∧ isNode 0xEFFFFF = true ∧
    (live.hears ∧ live.round.phase = .none) ∧
    ((following .opening 0 0).hears ∧ (following .opening 0 0).round.phase = .opening) ∧
    ((following .chips 16 0).hears ∧ (following .chips 16 0).round.phase = .chips) ∧
    ((following .settle 33 127).hears ∧ (following .settle 33 127).round.phase = .settle) := by decide +kernel

theorem witness_JoinAppendsDisordersOrIsIgnored :
    depthAllowed (80 : Byte).toNat ∧ 2 ≤ (2 : Byte).toNat ∧ (2 : Byte).toNat ≤ 6 ∧ 2 ≤ (6 : Byte).toNat ∧
    (6 : Byte).toNat ≤ 6 ∧ isNode 0x000001 = true ∧
    ((following .opening 15 127).hears ∧ (following .opening 15 127).round.phase = .opening ∧
      (2 : Byte).toNat = (following .opening 15 127).round.probers.length + 1) ∧
    (live.hears ∧ live.round.phase ≠ .opening) := by decide +kernel

theorem live_lineSound : live.LineSound := by
  refine ⟨by decide, List.Pairwise.nil, by decide, by decide, ?_, trivial, by decide, by decide, ?_, by decide, by decide⟩
  · intro q hq; cases hq
  · intro h; exact absurd rfl h

/-- A live node is sound. -/
theorem live_sound : live.Sound where
  identity := by unfold State.NodeIdentity; decide +kernel
  generator := by unfold State.GeneratorRuns; decide
  memory := by unfold State.MemorySound; decide +kernel
  round := by unfold State.RoundSound; decide +kernel
  sense := by
    refine ⟨trivial, by decide, ?_, by decide, by decide⟩
    intro f hf; cases hf
  scheduler := by unfold State.SchedulerSound; decide
  table := by
    refine ⟨by decide, ?_, by decide, by decide, by decide⟩
    intro e he
    have : entriesOf live.table.slots = [] := by decide
    rw [this] at he; cases he
  election := by unfold State.ElectionSound; decide +kernel
  zone := by unfold State.ZoneSound; decide +kernel
  light := by unfold State.LightSound; decide +kernel
  climate := by unfold State.ClimateSound; decide +kernel
  line := live_lineSound

/-- Every step from the live node answers a next state: here one crystal cycle. -/
theorem witness_EveryStepKeeps : live.Sound ∧ step live = .next (crystalCycle live) := ⟨live_sound, rfl⟩


/-- A CALL/JOIN as fixed head over a CLAIM. -/
def twoQueued (s : State) : State := queued [.callJoin, .claim] (.fixed 3 0 (.counting 0)) s

theorem twoQueued_lineSound (s : State) (hs : s.phase = .running) (hc : s.line.counters = ⟨0, 0, 0, 0, 0, 0, 0, 0⟩)
    (hf : s.line.followOn = false) : (twoQueued s).LineSound := by
  have hrun : (twoQueued s).phase = .running := hs
  refine ⟨?_, ?_, ?_, ?_, ?_, ?_, ?_, ?_, ?_, ?_, ?_⟩
  · simp [twoQueued, queued]
  · simp [twoQueued, queued, LineInterface.rankedQueue, LineInterface.displaceable]
  · simp [twoQueued, queued]
  · simp [twoQueued, queued]
  · simp [twoQueued, queued, requestSound]
  · exact ⟨by decide, by decide⟩
  · simp [twoQueued, queued]
  · intro h; rw [show (twoQueued s).line.followOn = s.line.followOn from rfl, hf] at h; cases h
  · intro h; exact absurd hrun h
  · intro h; simp [State.live, hrun] at h
  · rw [show (twoQueued s).line.counters = s.line.counters from rfl, hc]; decide

/-- A CLAIM being sent. -/
def claimSent : State := sending 1 .claim (.claim 0x00A310 0 0 (some (235, 30))) live

/-- A CLAIM sent whole, the line idle for so long after its check. -/
def claimSentWhole (units : Nat) : State :=
  { claimSent with
    line := { claimSent.line with
      contention := .fixed 3 1 (.sending ⟨0x00A310, .claim 0x00A310 0 0 (some (235, 30))⟩ 0), level := .idle units } }

/-- The completion is due at 3 byte times of idle and not before (R177). -/
theorem test_completion_falls_at_three_byte_times :
    (claimSentWhole (3 * byteTime - 3)).dueLine = [] ∧ (claimSentWhole (3 * byteTime)).dueLine = [.noticeCompletion] := by
  decide +kernel

/-- A start bit after the check makes the completion wait, and the next head is not fixed in its place (R162, R177). -/
theorem test_completion_waits_for_the_line :
    (after .lineStartBit (claimSentWhole byteTime)).line.level = .busy ∧
    (after .lineStartBit (claimSentWhole byteTime)).dueLine = [] ∧
    (after .noticeCompletion (after .lineStartBit (claimSentWhole byteTime))).line.level = .idle (3 * byteTime) := by
  decide +kernel

theorem witness_SlotLastsAHundredTwentyEightTicks :
    let t : SlotTimer := ⟨true, 0, 0, 33, true, 16, 4⟩
    t.counting = true ∧ t.prescaler = 0 ∧ t.tick = 0 ∧ 0 < 128 * 256 ∧ 32767 < 128 * 256 ∧ live.prescaler = 0 ∧
    live.live = true ∧ 255 < 256 ∧ live.line.level = .idle (4 * byteTime) ∧ 25597 + 3 * 1 ≤ 4 * byteTime ∧
    (twoQueued live).line.contention = .fixed 3 0 (.counting 0) ∧
    claimSent.line.contention = .fixed 3 1 (.sending ⟨0x00A310, .claim 0x00A310 0 0 (some (235, 30))⟩ 6400) ∧
    3 * 2133 < 6400 ∧ 6400 ≤ 3 * 2134 := by decide

theorem claimSent_lineSound : claimSent.LineSound := by
  refine ⟨by decide, by decide, by decide, by decide, ?_, ?_, by decide, by decide, ?_, by decide, by decide⟩
  · intro q hq; simp [claimSent, sending, queued] at hq; subst hq; trivial
  · exact ⟨by decide, by decide, by decide, by decide +kernel, by decide +kernel⟩
  · intro h; exact absurd rfl h

theorem fullQueue_lineSound : fullQueue.LineSound := by
  refine ⟨by decide, by decide +kernel, by decide, by decide +kernel, ?_, ⟨by decide, by decide⟩, by decide, by decide, ?_,
    by decide, by decide⟩
  · intro q hq
    simp only [fullQueue, List.mem_cons, List.not_mem_nil, or_false] at hq
    rcases hq with rfl | rfl | rfl | rfl | rfl | rfl | rfl | rfl <;> simp [requestSound]
  · intro h; exact absurd rfl h

/-- The request is sent, stands behind the head, stands in an unfixed queue, or is the fixed head; the three owners. -/
theorem witness_OwnersWithdrawTheirPendingRequests :
    (claimSent.LineSound ∧ heldOnce .claim = true ∧ claimSent.line.sendingRequest = some .claim) ∧
    ((twoQueued live).LineSound ∧ (twoQueued live).line.sendingRequest ≠ some .claim ∧
      (∃ q ∈ (twoQueued live).line.queue.head?, q.request ≠ .claim) ∧
      (twoQueued live).line.contention = .fixed 3 0 (.counting 0) ∧
      (twoQueued live).line.queue = ⟨.callJoin, 0⟩ :: [⟨.claim, 1⟩]) ∧
    (live.LineSound ∧ live.line.contention = .unfixed) ∧
    ((following .opening 11 127).round.phase = .opening ∧ (following .opening 11 127).round.timer.guardPassed = false ∧
      (twoQueued (following .opening 11 127)).line.pendingRequest .callJoin = true) ∧
    ((wanting .queued live).sched.state = .wanting ∧ (wanting .queued live).sched.deadline.isSome = true) ∧
    (reading live).climate.readingHold.isSome = true :=
  ⟨⟨claimSent_lineSound, by decide, by decide⟩,
    ⟨twoQueued_lineSound live rfl rfl rfl, by decide, ⟨_, rfl, by decide⟩, rfl, rfl⟩, ⟨live_lineSound, rfl⟩,
    by decide, by decide, by decide⟩

theorem witness_ChipsFreezeTheBaseAndDriveTheCode :
    ((probing .opening 15).round.phase = .opening ∧ (probing .opening 15).sense.round = .idle) ∧
    (probing .chips 16).round.phase = .chips := by decide

theorem witness_StartOfSettleEndsTheOverrideAndComputes : (probing .chips 31).round.phase = .chips := by decide

theorem witness_FindingFollowsJudgementResponseAndIndex : depthAllowed 20 ∧ depthAllowed 80 := by decide

theorem witness_SixtyFourConversionsGiveTheCorrelations : (List.replicate 64 (4095 : AdcCode)).length = 64 := by decide

/-- A close without results, and with one. -/
theorem witness_RoundCloseDeliversTheResults :
    ((probing .settle 33).round.phase = .settle ∧ (probing .settle 33).sense.round = .idle ∧
      (probing .settle 33).sched.state = .probing) ∧
    (({ probing .settle 33 with
        sense := { live.sense with round := .ready [⟨0x00A310, 1, .index 100⟩] .valid } } : State).round.phase = .settle ∧
      ({ probing .settle 33 with
        sense := { live.sense with round := .ready [⟨0x00A310, 1, .index 100⟩] .valid } } : State).sense.round
          = .ready [⟨0x00A310, 1, .index 100⟩] .valid) := by
  decide

/-- The first code of a chip, the last of its sum, a sample that starts a conversion, and the converter at work. -/
theorem witness_LightConversionsFormChipSums :
    (∃ d, (sampling []).sense.round = .sampling d ∧ d.chip < 16 ∧ d.codes.length < 3) ∧
    (∃ d, (sampling [1, 2, 3]).sense.round = .sampling d ∧ d.chip < 16 ∧ d.codes.length = 3) ∧
    (let s : State := { sampling [] with sense := { (sampling []).sense with lightConverting := false } };
      (∃ d, s.sense.round = .sampling d) ∧ s.sense.lightConverting = false ∧ s.sense.burst = none) ∧
    (sampling []).round.timer.nextSample < 4 ∧
    (sampling []).round.timer.tick ≤ 40 + 16 * (sampling []).round.timer.nextSample ∧
    (sampling []).sense.lightConverting = true ∧ (∃ b ∈ burst.sense.burst, b.converting = true) ∧
    (∀ d, live.sense.round ≠ .sampling d) :=
  ⟨⟨_, rfl, by decide, by decide⟩, ⟨_, rfl, by decide, by decide⟩, ⟨⟨_, rfl⟩, by decide, by decide⟩, by decide, by decide,
    by decide, ⟨_, rfl, by decide⟩, fun _ h => by cases h⟩

/-- The sixth code, and an eighth code that ends a valid and an invalid burst. -/
theorem witness_TemperatureBurstMakesAReading :
    live.climate.sampleTimer.isSome = true ∧
    (∃ b, ({ burst with sense := { burst.sense with burst := some ⟨[1, 2, 3, 4, 5, 6], true⟩ } } : State).sense.burst = some b ∧
      b.converting = true ∧ b.codes.length < 7) ∧
    (∃ b, burst.sense.burst = some b ∧ b.converting = true ∧ b.codes.length = 7 ∧
      (∃ c ∈ b.codes ++ [4095], c = 0 ∨ c = 4095) ∧ ∀ c ∈ b.codes ++ [4094], c ≠ 0 ∧ c ≠ 4095) :=
  ⟨by decide, ⟨_, rfl, by decide, by decide⟩, ⟨_, rfl, by decide, by decide, by decide, by decide⟩⟩

/-- The last slot that admits a request, slot 12 before and after GUARD_START, inside and outside listen-only. -/
theorem witness_QueueingDecisionFollowsTheRoundView :
    ((following .opening 11 0).sched.state = .resting ∧ (following .opening 11 0).sched.probe.isSome = true ∧
      (following .opening 11 0).phase ≠ .listenOnly ∧ (following .opening 11 0).round.timer.slot < 12 ∧
      (following .opening 11 0).round.probers.length < 6) ∧
    (following .opening 12 0).round.timer.guardPassed = false ∧
    (12 ≤ (guarded (following .opening 12 0)).round.timer.slot ∧
      (guarded (following .opening 12 0)).round.timer.guardPassed = true) ∧
    (listening.sched.state = .resting ∧ listening.phase = .listenOnly) ∧
    ((wanting .delay live).sched.state = .wanting ∧ (wanting .delay live).sched.wait = some .delay ∧
      (wanting .delay live).sched.retry.isSome = true ∧ (wanting .delay live).phase ≠ .listenOnly ∧
      (wanting .delay live).round.phase = .none) ∧
    (wanting .delay (following .settle 32 0)).round.phase = .settle := by decide

theorem witness_StirAndSurveyEnterOrExtendBrisk :
    live.hears ∧ (1 : Station) ≠ 0 ∧ live.sched.brisk.isSome = true ∧
    (∃ e ∈ entriesOf (holding [entryP none none .apart]).table.slots, e.station = 0x00C0F4) := by decide

/-- At the thresholds of class 1: 360 and 359, 220 and 219. -/
theorem witness_LinkMovesFollowThePairValue :
    1 ≤ 3 ∧ (thresholds 1).1 ≤ 360 ∧ (thresholds 1).2 ≤ 359 ∧ 359 < (thresholds 1).1 ∧ (thresholds 1).2 ≤ 220 ∧
    219 < (thresholds 1).2 ∧ Link.isLinked .resumed = true ∧ Link.isLinked .rising = false := by decide

theorem holding_tableSound : (holding [entryP (some 410) (some 310) .apart]).TableSound := by
  refine ⟨by decide, ?_, by decide, by decide, by decide⟩
  intro e he
  have : entriesOf (holding [entryP (some 410) (some 310) .apart]).table.slots = [entryP (some 410) (some 310) .apart] := by
    decide
  rw [this, List.mem_singleton] at he
  subst he
  refine ⟨by decide, by decide +kernel, ?_, ?_, ?_, ?_, by decide⟩ <;> intro k hk <;> simp [entryP] at hk <;> subst hk <;> decide

/-- Told 4095; a shift by 65 and none by 64, from 100. -/
theorem witness_StoredValuesMoveTheirEntryAlone :
    (holding [entryP (some 410) (some 310) .apart]).hears ∧ (holding [entryP (some 410) (some 310) .apart]).TableSound ∧
    isNode 0x00C0F4 = true ∧
    slotAt (holding [entryP (some 410) (some 310) .apart]).table.slots 0 = some (entryP (some 410) (some 310) .apart) ∧
    (0x00C0F4 : Station) ≠ 0 ∧ (0xF00001 : Station) ≠ 0 ∧ 1 ≤ [((0x00A310 : Station), (410 : Half))].length ∧
    (List.replicate 6 ((0x00A310 : Station), (410 : Half))).length ≤ 6 ∧
    (4095 : Half).toNat ≤ 4095 ∧ 100 + max 64 (100 / 4) < 165 ∧ ¬ (100 + max 64 (100 / 4) < 164) :=
  ⟨by decide, holding_tableSound, by decide, by decide, by decide, by decide, by decide, by decide, by decide, by decide,
    by decide⟩

/-- Values of 63 and 64; the first empty slot; the weakest of a full table; a table of linked entries. -/
theorem witness_AdmissionTakesAnEmptySlotOrTheWeakestEntry :
    (0x00C2A0 : Station) ≠ live.station ∧ 63 < 64 ∧ 64 ≤ 64 ∧
    (slotAt live.table.slots 0 = none ∧ 0 < live.table.slots.length) ∧
    ((∀ n, n < full.table.slots.length → slotAt full.table.slots n ≠ none) ∧
      ∃ e, slotAt full.table.slots 4 = some e ∧ e.link.isLinked = false ∧ e.weight = 96) ∧
    (∀ e ∈ entriesOf (holding (List.replicate 16 (entryP (some 500) (some 500) .linked))).table.slots,
      e.link.isLinked = true) :=
  ⟨by decide +kernel, by decide, by decide, by decide, ⟨by decide +kernel, _, rfl, by decide, by decide⟩, by decide +kernel⟩

theorem witness_AgingMinuteAdvancesAndRemoves :
    live.table.agingMinute.isSome = true ∧ live.table.slots.length = 16 ∧ live.table.sensor = .ok ∧
    (let s := holding [⟨0x00C0F4, some 100, none, none, .linked, none, 14⟩];
      s.table.agingMinute.isSome = true ∧ s.table.sensor = .ok ∧ ∀ e ∈ entriesOf s.table.slots, e.quiet ≤ 14) ∧
    ({ live with table := { live.table with stirSpacing := some 0 } } : State).table.stirSpacing.isSome = true := by decide

theorem witness_ClaimIsCurrentWithinTwoGenerations : ∀ e ∈ entriesOf live.election.roots, e.root ≠ 0x00D010 := by decide

theorem witness_DerivationTakesTheBestCandidate : live.phase = .running := by decide

/-- Hops 15 of another root and hops 0; a root held, an empty slot, a full list with and without an evictable entry. -/
theorem witness_ClaimIsStoredAndTakenIntoTheRootList :
    let fullRoots : State := { live with
      election := { live.election with
        roots := (List.range 16).map (fun i => some ⟨BitVec.ofNat 24 (0xA300 + i), 0, 235, 30, 0⟩) } }
    let kept : State := { live with
      election := { live.election with roots := [some ⟨0x00A310, 0, 235, 30, 0⟩] } }
    (live.hears ∧ isNode 0x00D024 = true ∧ (15 : Byte).toNat ≤ 15 ∧ (15 : Byte) ≠ 0 ∧
      ((0 : Byte) = 0 ↔ (some ((235 : Half), (30 : Byte))).isSome = true)) ∧
    (nodeV.hears ∧ (∃ e, slotAt nodeV.table.slots 0 = some e ∧ e.station = 0x00D024 ∧ e.link.isLinked = true) ∧
      ∀ e ∈ entriesOf nodeV.table.slots, e.station ≠ 0x00D026) ∧
    ((entriesOf nodeV.election.roots).map (fun x => x.root)).Nodup ∧
    (∃ x, slotAt nodeV.election.roots 0 = some x ∧ x.root = 0x00D010) ∧
    (slotAt nodeV.election.roots 1 = none ∧ 1 < nodeV.election.roots.length) ∧
    ((∀ n, n < 16 → slotAt fullRoots.election.roots n ≠ none) ∧
      ((entriesOf fullRoots.election.roots).map (fun x => x.root)).Nodup ∧
      (∀ x ∈ entriesOf fullRoots.election.roots, x.root ≠ fullRoots.zone.working → x.root ≤ 0x00A30F)) ∧
    (∀ x ∈ entriesOf kept.election.roots, x.root = kept.zone.working ∨ x.root = kept.election.derived.root) := by
  refine ⟨by decide, ⟨by decide, ⟨_, rfl, by decide, by decide⟩, by decide⟩, by decide, ⟨_, rfl, by decide⟩, by decide, ⟨by decide +kernel,
    by decide +kernel, by decide +kernel⟩, by decide⟩

theorem witness_AgeSecondAdvancesAndRemoves :
    nodeV.election.ageSecond.isSome = true ∧ nodeV.election.roots.length = 16 ∧
    (∀ e ∈ entriesOf nodeV.election.roots, e.age < 99) := by decide

theorem witness_GenerationAndSpacingExpiriesAnnounce :
    live.election.generationTimer.isSome = true ∧ live.phase = .running ∧
    live.election.derived = ⟨live.station, 0, live.election.ownGeneration⟩ ∧ live.election.parent = none ∧
    (∀ e ∈ entriesOf live.table.slots, e.link.isLinked = false) ∧
    live.election.announced ≠ some ⟨live.station, 0, live.election.ownGeneration + 1⟩ ∧
    ({ live with election := { live.election with claimSpacing := some 0 } } : State).election.claimSpacing.isSome = true := by
  decide +kernel

theorem witness_SettleTimerExpiryChangesTheZone : settling.zone.settle.isSome = true := by decide

theorem witness_StartUpHoldEndComparesTheDerivedRoot : restored.zone.hold.isSome = true := by decide +kernel

theorem witness_OccupancyFollowsPresenceHoldAndGrace :
    live.hears ∧ ((zoned .occupied).light.occupancy = .occupied ∧ (zoned .occupied).light.holdTimer.isSome = true) ∧
    ((zoned .grace).light.occupancy = .grace ∧ (zoned .grace).light.graceTimer.isSome = true) ∧
    ({ live with light := { live.light with presenceSpacing := some 0 } } : State).light.presenceSpacing.isSome = true ∧
    (heldOut.live = true ∧ heldOut.pending = [] ∧ heldOut.light.occupancy = .grace ∧
      heldOut.light.graceTimer = some (seconds 120) ∧ heldOut.prescaler = 0 ∧ heldOut.light.sampling = some 0) := by
  decide

/-- The 99th sample, the 100th with 29 and with 30 active; pulse mode outside the lockout and within it; the disabled mode. -/
theorem witness_LocalPresenceComesFromAWindowOrAnEdge :
    (live.live = true ∧ live.occMode ≤ 1 ∧ live.light.windowCount < 99) ∧
    ((window 28).light.windowCount = 99 ∧ (window 28).light.activeCount + true.toNat < 30) ∧
    30 ≤ (window 29).light.activeCount + true.toNat ∧
    (pulse.live = true ∧ pulse.occMode = 2 ∧ pulse.light.lockout = none) ∧ live.occMode ≠ 2 ∧
    (let disabled : State := { live with straps := 0x553 };
      disabled.live = true ∧ disabled.occMode = 3) ∧
    ({ pulse with light := { pulse.light with lockout := some 0 } } : State).light.lockout.isSome = true := by decide

theorem witness_FadeStepsAndTheOutputStageFollowsThem :
    live.light.fadeTick.isSome = true ∧ live.live = true ∧
    ({ live with light := { live.light with active := 1023 } } : State).light.active < 1024 ∧
    1024 ≤ ({ live with light := { live.light with active := 1024 } } : State).light.active := by decide

theorem witness_CompareOfALevelLiesWithinRAnd1024 : ((24 = 24 ∨ 24 = 524) ∧ 0 ≤ 1000) ∧ (524 = 24 ∨ 524 = 524) ∧ 1000 ≤ 1000 := by
  decide

/-- A roster without an empty slot. -/
def twoAged : List (Option RosterEntry) := [some ⟨0x00A322, 200, 9⟩, some ⟨0x00A323, 200, 9⟩]

/-- A station held, an empty slot, and a full roster whose oldest entry stands first. -/
theorem witness_WarmthIsSentTakenAndAged :
    live.climate.warmthTimer.isSome = true ∧ live.hears ∧ (0x00A322 : Station) ≠ 0 ∧
    (∃ e, slotAt (west .vacant 0).climate.roster 1 = some e ∧ e.station = 0x00A010) ∧
    ((∀ e ∈ entriesOf (west .vacant 0).climate.roster, e.station ≠ 0x00A322) ∧
      slotAt (west .vacant 0).climate.roster 5 = none ∧ ∀ n, n < 5 → slotAt (west .vacant 0).climate.roster n ≠ none) ∧
    ((∀ n, n < twoAged.length → slotAt twoAged n ≠ none) ∧ slotAt twoAged 0 = some ⟨0x00A322, 200, 9⟩ ∧
      ∀ e ∈ entriesOf twoAged, e.age ≤ 9) ∧
    live.climate.rosterSecond.isSome = true ∧ live.terminal = true :=
  ⟨by decide, by decide, by decide, ⟨_, rfl, by decide⟩, by decide, by decide, by decide, by decide⟩

/-- An empty roster and one of five; a root-list entry of the working root and none. -/
theorem witness_ControlStepMovesTheDamperTowardTheDemand :
    (live.terminal = true ∧ live.climate.controlTimer.isSome = true ∧ entriesOf live.climate.roster = []) ∧
    entriesOf (west .vacant 0).climate.roster ≠ [] ∧
    (150 ≤ live.climate.setpoint ∧ live.climate.setpoint ≤ 300 ∧ live.climate.setback ≤ 60) ∧
    (∃ e, rootEntry (west .vacant 0).election.roots (west .vacant 0).zone.working = some e) ∧
    rootEntry live.election.roots live.zone.working = none :=
  ⟨by decide, by decide, by decide, ⟨_, rfl⟩, by decide⟩

theorem witness_DemandFollowsTheError : (0 : Int) ≤ 0 ∧ (1 : Int) ≤ 1 ∧ (19 : Int) ≤ 19 ∧ (20 : Int) ≤ 20 := by decide

/-- Step 4 and listen-only; an ANSWER in listen-only; a CLAIM pending, a CLAIM being sent, and queues of 0 and 7. -/
theorem witness_OfferReplacesFollowsOrEnters :
    (restored.phase ≠ .running ∧ restored.phase ≠ .listenOnly) ∧
    (listening.phase = .listenOnly ∧ (∀ page content, Request.claim ≠ .answer page content)) ∧
    (∃ page content, Request.answer 1 [] = .answer page content) ∧
    (live.phase = .running ∧ live.line.holds .claim = false ∧ live.line.queue.length < 8) ∧
    (heldOnce .claim = true ∧ (twoQueued live).line.holds .claim = true ∧
      (twoQueued live).line.sendingRequest ≠ some .claim) ∧
    claimSent.line.sendingRequest = some .claim ∧
    (queued (List.replicate 7 (.stir 1)) .unfixed live).line.queue.length < 8 ∧ heldOnce (.stir 1) = false :=
  ⟨by decide +kernel, ⟨by decide, fun _ _ h => by cases h⟩, ⟨_, _, rfl⟩, by decide, by decide, by decide, by decide, by decide⟩

/-- A CALL/JOIN finds the victim ANSWER y; an ANSWER finds none. -/
theorem witness_OfferToAFullQueueDisplacesOrIsRefused :
    fullQueue.LineSound ∧ fullQueue.phase = .running ∧ fullQueue.line.queue.length = 8 ∧
    fullQueue.line.holds .callJoin = false ∧ heldOnce (.answer 3 []) = false ∧
    (⟨.answer 2 [], 8⟩ : Queued) ∈ fullQueue.line.displaceable ∧ rank .callJoin < rank (.answer 2 []) ∧
    (∀ q ∈ fullQueue.line.displaceable, rank .callJoin < rank q.request → q = ⟨.answer 2 [], 8⟩ ∨ q.entered < 8) ∧
    (∀ q ∈ fullQueue.line.displaceable, rank q.request ≤ rank (.answer 3 [])) :=
  ⟨fullQueue_lineSound, by decide, by decide, by decide, by decide, by decide, by decide, by decide, by decide⟩

theorem witness_BackoffIsDrawnPausedAndResumed :
    ((queued [.claim] .unfixed live).live = true ∧ (queued [.claim] .unfixed live).line.contention = .unfixed ∧
      (queued [.claim] .unfixed live).line.queue ≠ []) ∧
    (live.line.sendingRequest = none ∧ live.line.queue = []) ∧
    (twoQueued live).line.contention = .fixed 3 0 (.counting 0) ∧
    (queued [.claim] (.fixed 3 0 (.paused 1)) live).line.contention = .fixed 3 0 (.paused 1) ∧
    (queued [.claim] (.fixed 7 15 .lost) live).line.contention = .fixed 7 15 .lost ∧
    (∀ e a units, live.line.contention ≠ .fixed e a (.counting units)) :=
  ⟨by decide, by decide, by decide, by decide, by decide, fun _ _ _ h => by cases h⟩

/-- The head sent as CALL, sent at slot 12 before GUARD_START, and withdrawn after it; a notice being sent, and none. -/
theorem witness_LineWinSendsOrWithdrawsTheHead :
    ((twoQueued live).line.contention = .fixed 3 0 (.counting 0) ∧
      (twoQueued live).line.queue = ⟨.callJoin, 0⟩ :: [⟨.claim, 1⟩] ∧ (twoQueued live).round.own = none ∧
      (twoQueued live).round.phase = .none) ∧
    ((twoQueued (following .opening 12 0)).round.phase = .opening ∧
      (twoQueued (following .opening 12 0)).round.timer.guardPassed = false ∧
      (twoQueued (following .opening 12 0)).round.probers.length < 6) ∧
    ((twoQueued (guarded (following .opening 12 0))).round.phase = .opening ∧
      12 ≤ (twoQueued (guarded (following .opening 12 0))).round.timer.slot ∧
      (twoQueued (guarded (following .opening 12 0))).round.timer.guardPassed = true) ∧
    claimSent.line.contention = .fixed 3 1 (.sending ⟨0x00A310, .claim 0x00A310 0 0 (some (235, 30))⟩ 6400) ∧
    (∀ e a n units, live.line.contention ≠ .fixed e a (.sending n units)) :=
  ⟨by decide, by decide, by decide, by decide, fun _ _ _ _ h => by cases h⟩

/-- The 15th and the 16th attempt; a request its owner gave up; a follow-on. -/
theorem witness_LossRaisesTheExponentOrDropsTheHead :
    (∃ n, (sending 15 .claim (.claim 0x00A310 0 0 none) live).line.contention = .fixed 7 15 (.sending n 6400)) ∧
    (∃ n, (sending 16 .claim (.claim 0x00A310 0 0 none) live).line.contention = .fixed 7 16 (.sending n 6400)) ∧
    claimSent.line.queue = ⟨.claim, 0⟩ :: [] ∧ live.sched.wait ≠ some .queued ∧ live.climate.reading = none ∧
    ((wanting .queued live).sched.state = .wanting ∧ (wanting .queued live).sched.wait = some .queued) ∧
    (reading live).climate.reading.isSome = true ∧ live.line.followOn = false ∧
    ({ claimSent with line := { claimSent.line with followOn := true } } : State).line.followOn = true :=
  ⟨⟨_, rfl⟩, ⟨_, rfl⟩, by decide, by decide, by decide, by decide, by decide, by decide, by decide⟩

/-- A PRESENCE, a CALL in NONE, a JOIN in OPENING, a WARMTH and a PRESENCE with a follow-on, and a hops-0 CLAIM complete. -/
theorem witness_NoticeCompletionReportsAndLoopsBack :
    ((claimSentWhole 0).live = true ∧ (claimSentWhole 0).line.contention
        = .fixed 3 1 (.sending ⟨0x00A310, .claim 0x00A310 0 0 (some (235, 30))⟩ 0) ∧
      (after .lineStartBit (claimSentWhole 0)).line.level = .busy ∧ (claimSentWhole 0).line.framer = .ready ∧
      (claimSentWhole 0).line.queue ≠ [] ∧ judge ⟨List.replicate 49 0xC3, false⟩ = .counted) ∧
    (sending 1 .presence (.presence 0x00A310) live).line.contention
      = .fixed 3 1 (.sending ⟨live.station, .presence 0x00A310⟩ 6400) ∧
    (sending 1 .presence (.presence 0x00A310) live).line.followOn = false ∧
    (sending 1 .callJoin (.call 40) live).round.phase = .none ∧
    ((sending 1 .callJoin (.join 40 2) (following .opening 3 0)).round.phase = .opening ∧
      (2 : Byte).toNat = (following .opening 3 0).round.probers.length + 1 ∧
      ∀ r ∈ (following .opening 3 0).round.probers, r.station ≠ live.station) ∧
    ({ sending 1 .warmth (.warmth 0x00A310 200) live with
        line := { (sending 1 .warmth (.warmth 0x00A310 200) live).line with followOn := true } } : State).line.followOn = true ∧
    (let s : State := { sending 1 .presence (.presence 0x00A310) live with
        line := { (sending 1 .presence (.presence 0x00A310) live).line with followOn := true } };
      s.line.followOn = true ∧ s.line.queue = ⟨.presence, 0⟩ :: [] ∧
        s.line.contention = .fixed 3 1 (.sending ⟨s.station, .presence 0x00A310⟩ 6400)) ∧
    claimSent.line.contention
      = .fixed 3 1 (.sending ⟨live.station, .claim 0x00A310 0 0 (some (235, 30))⟩ 6400) := by decide +kernel

/-- The framer waits for its first idle. -/
def early : State := { live with line := { live.line with framer := .awaitingIdle } }

/-- A framer before its first idle; a notice being sent; 7 and 49 bytes collected; an ANSWER of 36 bytes; the longest lists
that a frame holds; a body length of 41, one that the bytes do not have, a false check; and a body of 40 bytes. -/
theorem witness_FramerTakesNoticesAndCountsBrokenOnes :
    (early.live = true ∧ early.line.framer = .awaitingIdle ∧ early.line.sendingRequest = none ∧ early.line.framer ≠ .ready) ∧
    live.hears ∧ Collected.fails ⟨List.replicate 7 0xC3, false⟩ = true ∧ (List.replicate 7 (0xC3 : Byte)).length < 8 ∧
    48 < (List.replicate 49 (0xC3 : Byte)).length ∧ (List.replicate 36 (0 : Byte)).length ≤ 36 ∧
    claimSent.line.sendingRequest.isSome = true ∧
    ((after .lineStartBit (claimSentWhole 0)).live = true ∧
      (after .lineStartBit (claimSentWhole 0)).line.framer = .ready ∧
      (after .lineStartBit (claimSentWhole 0)).line.queue ≠ [] ∧
      (after .lineStartBit (claimSentWhole 0)).line.level = .busy ∧
      (after .lineStartBit (claimSentWhole 0)).line.contention
        = .fixed 3 1 (.sending ⟨0x00A310, .claim 0x00A310 0 0 (some (235, 30))⟩ 0) ∧
      judge ⟨List.replicate 49 0xC3, false⟩ = .counted ∧ (claimSentWhole 0).line.level ≠ .busy) ∧
    (List.replicate 7 ((1 : Station), (1 : Half))).length ≤ 7 ∧
    (List.replicate 39 (0 : Byte)).length ≤ 39 ∧ (¬ depthAllowed (30 : Byte).toNat ∧ isTool 0xF00001 = true) ∧
    ((1 : Byte).toNat < 2 ∧ 6 < (7 : Byte).toNat ∧ 15 < (16 : Byte).toNat ∧ 3 < (4 : Byte).toNat) ∧
    (40 < (41 : Byte).toNat ∧ ([0] : List Byte).length ≠ (1 : Byte).toNat + 2 ∧
      ([0, 0] : List Byte) ≠ halfBytes (crc16 [0x70, 0, 0xA3, 0x22, 0])) ∧ (List.replicate 40 (0 : Byte)).length ≤ 40 := by
  decide +kernel

theorem witness_FrameOfAPassingNoticeIsReadBack :
    judgeNotice ⟨0x00A322, .answer 1 (List.replicate 36 0)⟩ = .passes ⟨0x00A322, .answer 1 (List.replicate 36 0)⟩ ∧
    ([0, 0] : List Byte) ≠ halfBytes (crc16 (checkedBytes ⟨0x00A322, .stir 1⟩)) := by decide +kernel

theorem witness_AskAndSetServeTheStationTheyName :
    live.hears ∧ (0xF00001 : Station) ≠ 0 ∧ ((1 : Byte) = 1 ∨ (1 : Byte) = 2 ∨ (1 : Byte) = 3) ∧
    ((3 : Byte) = 1 ∨ (3 : Byte) = 2 ∨ (3 : Byte) = 3) := by decide

/-- Pending already; idle and rested; waiting on the rest timer; both expiries. -/
theorem witness_SaveRequestsStartWaitOrMerge :
    let resting : State := { live with memory := { live.memory with rest := some 0, pendingSave := true, linkHoldOff := some 0 } }
    resting.memory.pendingSave = true ∧
    (live.memory.pendingSave = false ∧ live.memory.engine = .idle ∧ live.memory.rest = none) ∧
    ({ live with memory := { live.memory with engine := .saving 0 } } : State).memory.engine ≠ .idle ∧
    resting.memory.rest.isSome = true ∧ resting.memory.linkHoldOff.isSome = true := by decide

theorem witness_SaveAndClearCompletionsWriteThePages :
    let saving : State := { live with memory := { live.memory with engine := .saving 576, snapshot := some [0x5A] } }
    (saving.memory.engine = .saving 576 ∧ saving.memory.snapshot = some [0x5A]) ∧
    ({ live with memory := { live.memory with engine := .clearing 384 } } : State).memory.engine = .clearing 384 := by decide

/-- A terminal node in the zone of another root, with presence held and its own entry in the roster. -/
def elsewhere : State :=
  { live with
    zone := { live.zone with working := 0x00A02C }
    light := { live.light with held := true }
    climate := { live.climate with roster := some ⟨0x00A310, 221, 0⟩ :: List.replicate 23 none } }

/-- FORGET there is a zone change: roster emptied, PRESENCE queued, no save request (R112, R116). -/
theorem test_forget_changes_the_zone :
    let t := after (.forget 0xF00001 0x00A310) elsewhere
    elsewhere.terminal = true ∧ t.climate.roster = List.replicate 24 none ∧
    t.line.queue.map (fun q => q.request) = [.presence] ∧ t.zone.working = 0x00A310 ∧ t.memory.pendingSave = false := by
  decide +kernel

theorem witness_ForgetClearsTheTableTheZoneAndTheRecord :
    live.hears ∧ (0xF00001 : Station) ≠ 0 ∧ (0 : Station) ≠ live.station ∧ (0x00A310 : Station) = live.station ∧
    nodeV.table.slots.length = 16 ∧ nodeV.phase = .running ∧
    (∃ e ∈ entriesOf nodeV.table.slots, e.link.isLinked = true) ∧
    (elsewhere.hears ∧ elsewhere.zone.working ≠ elsewhere.station ∧ elsewhere.light.held = true ∧
      elsewhere.phase = .running ∧ elsewhere.line.queue.length ≤ 6 ∧ elsewhere.table.slots.length = 16 ∧
      (∀ e ∈ entriesOf elsewhere.table.slots, e.link.isLinked = false)) := by decide +kernel

theorem witness_SavedRecordIsRestoredAsTaken :
    nodeV.memory.nv.wf = true ∧ nodeV.table.slots.length = 16 ∧ -32768 ≤ nodeV.climate.setpoint ∧
    nodeV.climate.setpoint ≤ 32767 ∧ nodeV.climate.setback ≤ 255 ∧ nodeV.light.task ≤ 65535 := by decide +kernel

/-- A command of each kind that may change one of the values. -/
theorem witness_OnlyTheirOwnEventsChangeWhatTheZoneObeys :
    Instr.controlStep.wellFormed = true ∧ exec .controlStep live = .next (after .controlStep live) ∧
    Instr.fadeTick.wellFormed = true ∧ exec .fadeTick (following .chips 17 0) = .next (after .fadeTick (following .chips 17 0)) ∧
    (following .chips 17 0).round.phase = .chips ∧ (after .fadeTick (following .chips 17 0)).round.phase = .chips :=
  ⟨rfl, rfl, rfl, rfl, by decide, by decide⟩

end Sys2Proof.Tests
end

/-! SUPPORT. The generator (R1): its advance bit by bit, its seed, and its draws. -/

namespace Sys2Proof.Machine

/-- An advance moves every bit but the lowest one place down. -/
theorem lfsrNext_getLsbD_low (g : BitVec 16) {i : Nat} (hi : i < 15) : (lfsrNext g).getLsbD i = g.getLsbD (i + 1) := by
  have htop : ∀ b : Bool, (if b then 0x8000#16 else 0#16).getLsbD i = false := by
    intro b
    have h8000 : ∀ j < 15, (0x8000#16).getLsbD j = false := by decide
    cases b
    · simp
    · exact h8000 i hi
  simp only [lfsrNext, BitVec.getLsbD_or, BitVec.getLsbD_ushiftRight, htop, Bool.or_false]
  rw [Nat.add_comm]

/-- The feedback bit enters at the top. -/
theorem lfsrNext_getLsbD_top (g : BitVec 16) :
    (lfsrNext g).getLsbD 15 = (g.getLsbD 0 ^^ g.getLsbD 2 ^^ g.getLsbD 3 ^^ g.getLsbD 5) := by
  have hshift : (g >>> 1).getLsbD 15 = false := by simp
  simp only [lfsrNext, BitVec.getLsbD_or, hshift, Bool.false_or]
  cases (g.getLsbD 0 ^^ g.getLsbD 2 ^^ g.getLsbD 3 ^^ g.getLsbD 5) <;> rfl

/-- Two states with one successor are one state: fifteen bits are read off the successor, and the lowest off its feedback. -/
theorem lfsrNext_injective : Function.Injective lfsrNext := by
  intro h g heq
  have hhigh : ∀ i, i < 15 → h.getLsbD (i + 1) = g.getLsbD (i + 1) := fun i hi => by
    rw [← lfsrNext_getLsbD_low h hi, ← lfsrNext_getLsbD_low g hi, heq]
  have hlow : h.getLsbD 0 = g.getLsbD 0 := by
    have htop : (lfsrNext h).getLsbD 15 = (lfsrNext g).getLsbD 15 := by rw [heq]
    rw [lfsrNext_getLsbD_top, lfsrNext_getLsbD_top, hhigh 1 (by omega), hhigh 2 (by omega), hhigh 4 (by omega)] at htop
    simpa only [Bool.xor_left_inj] using htop
  refine BitVec.eq_of_getLsbD_eq fun i hi => ?_
  cases i with
  | zero => exact hlow
  | succ i => exact hhigh i (by omega)

/-- No state but 0 leads to 0, which leads to itself. -/
theorem lfsrNext_ne_zero {g : BitVec 16} (hg : g ≠ 0) : lfsrNext g ≠ 0 := by
  have hzero : lfsrNext 0 = 0 := by decide
  exact fun h => hg (lfsrNext_injective (h.trans hzero.symm))

/-- The seed as a number: the station's low 16 bits, or 1. -/
theorem lfsrSeed_toNat (station : Station) :
    (lfsrSeed station).toNat = if station.toNat % 65536 = 0 then 1 else station.toNat % 65536 := by
  have hlow : (station.truncate 16 = 0) ↔ station.toNat % 65536 = 0 := by
    simp [← BitVec.toNat_inj]
  unfold lfsrSeed
  simp only [hlow]
  split
  · rfl
  · simp

/-- A seed is never 0. -/
theorem lfsrSeed_ne_zero (station : Station) : lfsrSeed station ≠ 0 := by
  intro h
  have hnat := lfsrSeed_toNat station
  rw [h] at hnat
  split at hnat <;> simp_all

/-- A draw of 0..n gives no more than n: the state is below 65536. -/
theorem drawFrom_le (g : BitVec 16) (n : Nat) : drawFrom g n ≤ n := by
  have hlt : g.toNat * (n + 1) < 65536 * (n + 1) := Nat.mul_lt_mul_of_pos_right g.isLt (Nat.succ_pos n)
  exact Nat.lt_succ_iff.mp (Nat.div_lt_of_lt_mul hlt)

/-- Settles O4, from the bits of an advance. -/
theorem generatorAdvanceAndDraws : Obligations.GeneratorAdvanceAndDraws :=
  ⟨fun station => ⟨lfsrSeed_ne_zero station, lfsrSeed_toNat station⟩,
    fun g => ⟨fun _ hi => lfsrNext_getLsbD_low g hi, lfsrNext_getLsbD_top g, lfsrNext_ne_zero,
      fun _ h => lfsrNext_injective h, fun n => ⟨drawFrom_le g n, rfl⟩⟩⟩

end Sys2Proof.Machine

/-! SUPPORT. Every step keeps the blocks of a round: the round view, the Sense Unit, the Probe Scheduler and the generator. An
operation either keeps all that these rest on (`ProbingKept`), or has a lemma of its own that it leaves them sound. -/

namespace Sys2Proof.Machine

-- One thread, as in the tests: a thread per theorem exceeds the memory limit of the check.
set_option Elab.async false

/-! ### Probing: the round view, the Sense Unit, the scheduler and the generator -/

/-- The blocks of a round are sound: what O55 claims of the state after a step. -/
structure State.ProbingSound (s : State) : Prop where
  round : s.RoundSound
  sense : s.SenseSound
  scheduler : s.SchedulerSound
  generator : s.GeneratorRuns

/-- From the first state to the second nothing changes that the round view and the Sense Unit rest on, and the scheduler and
the generator stay sound. Most operations of the part are of this kind. -/
structure ProbingKept (s t : State) : Prop where
  live : t.live = s.live
  round : t.round = s.round
  sense : t.sense = s.sense
  station : t.station = s.station
  scheduler : s.SchedulerSound → t.SchedulerSound
  generator : s.GeneratorRuns → t.GeneratorRuns

/-- Liveness is a matter of the start-up phase alone. -/
theorem State.live_congr {s t : State} (h : t.phase = s.phase) : t.live = s.live := by
  unfold State.live; rw [h]

theorem State.SchedulerSound.congr {s t : State} (h : s.SchedulerSound) (hs : t.sched = s.sched) (hl : t.live = s.live) :
    t.SchedulerSound := by
  unfold State.SchedulerSound at *
  rw [hs, hl]
  exact h

namespace ProbingKept

variable {s t u : State}

theorem refl (s : State) : ProbingKept s s := ⟨rfl, rfl, rfl, rfl, id, id⟩

theorem trans (h : ProbingKept s t) (k : ProbingKept t u) : ProbingKept s u :=
  ⟨k.live.trans h.live, k.round.trans h.round, k.sense.trans h.sense, k.station.trans h.station,
    k.scheduler ∘ h.scheduler, k.generator ∘ h.generator⟩

/-- Only what stands outside the blocks of a round has changed. -/
theorem of_views
    (h : t.phase = s.phase ∧ t.round = s.round ∧ t.sense = s.sense ∧ t.sched = s.sched ∧ t.rng = s.rng ∧
      t.memory.nv = s.memory.nv := by simp) : ProbingKept s t := by
  obtain ⟨hphase, hround, hsense, hsched, hrng, hnv⟩ := h
  have hlive := State.live_congr hphase
  exact ⟨hlive, hround, hsense, congrArg Memory.stationId hnv, fun hs => hs.congr hsched hlive,
    fun hg => by unfold State.GeneratorRuns; rw [hrng]; exact hg⟩

/-- A draw leaves the generator off 0. -/
theorem draw (s : State) : ProbingKept s s.afterDraw :=
  ⟨rfl, rfl, rfl, rfl, id, fun hg => lfsrNext_ne_zero hg⟩

/-- The scheduler alone moves, soundly. -/
theorem of_sched {x : Scheduler} (h : s.SchedulerSound → (s.withSched x).SchedulerSound) : ProbingKept s (s.withSched x) :=
  ⟨rfl, rfl, rfl, rfl, h, id⟩

theorem sound (h : ProbingKept s t) (hs : s.ProbingSound) : t.ProbingSound := by
  obtain ⟨hround, hsense, hsched, hgen⟩ := hs
  refine ⟨?_, ?_, h.scheduler hsched, h.generator hgen⟩
  · unfold State.RoundSound at *
    rw [h.round, h.station, h.live]
    exact hround
  · unfold State.SenseSound State.temperatureConverting at *
    rw [h.round, h.sense, h.live]
    exact hsense

/-- The numbering of the free values is no matter of a round. -/
theorem free (h : ProbingKept s t) (n : Nat) : ProbingKept s { t with free := n } :=
  h.trans .of_views

theorem foldl {α : Type} {f : State → α → State} (h : ∀ s a, ProbingKept s (f s a)) (l : List α) (s : State) :
    ProbingKept s (l.foldl f s) := by
  induction l generalizing s with
  | nil => exact refl s
  | cons a rest ih => exact (h s a).trans (ih (f s a))

theorem anyOrder {f g k : State → State} (hf : ∀ s, ProbingKept s (f s)) (hg : ∀ s, ProbingKept s (g s))
    (hk : ∀ s, ProbingKept s (k s)) (s : State) : ProbingKept s (Machine.anyOrder f g k s) := by
  obtain ⟨a, ha, h⟩ := anyOrder_cases f g k s
  have kept : ProbingKept s a := by
    rcases ha with rfl | rfl | rfl | rfl | rfl | rfl
    · exact (hf s).trans ((hg _).trans (hk _))
    · exact (hf s).trans ((hk _).trans (hg _))
    · exact (hg s).trans ((hf _).trans (hk _))
    · exact (hg s).trans ((hk _).trans (hf _))
    · exact (hk s).trans ((hf _).trans (hg _))
    · exact (hk s).trans ((hg _).trans (hf _))
  rcases h with h | h <;> rw [h]
  · exact kept
  · exact kept.free _

end ProbingKept

/-- A guarded effect that keeps the blocks of a round where its guard holds keeps them. -/
theorem ite_probingKept {p : Prop} [Decidable p] {s t : State} (h : p → ProbingKept s t) :
    ProbingKept s (if p then t else s) := by
  split
  · rename_i hp; exact h hp
  · exact .refl s

/-- An expiry keeps what its effect keeps. -/
theorem onExpiry_probingKept {effect : State → State} {s : State} {timer : Timer}
    (h : timer.isSome = true → ProbingKept s (effect s)) : ProbingKept s (onExpiry timer effect s) := by
  rcases onExpiry_cases timer effect s with ⟨hrun, e⟩ | ⟨-, e⟩ <;> rw [e]
  · exact h hrun
  · exact .refl s

/-! ### The transmit queue -/

theorem fixHead_probingKept (s : State) : ProbingKept s (fixHead s) := by
  rcases fixHead_cases s with h | ⟨-, -, -, h⟩ <;> rw [h]
  · exact .refl s
  · exact (ProbingKept.draw s).trans .of_views

theorem enterOrDisplace_probingKept (r : Request) (s : State) : ProbingKept s (enterOrDisplace r s) := by
  rcases enterOrDisplace_cases r s with ⟨-, h⟩ | ⟨-, ⟨v, -, h⟩ | ⟨-, h⟩⟩ <;> rw [h]
  · exact ProbingKept.trans .of_views (fixHead_probingKept _)
  · exact ProbingKept.trans .of_views (fixHead_probingKept _)
  · exact .of_views

theorem offer_probingKept (r : Request) (s : State) : ProbingKept s (offer r s) := by
  rcases offer_cases r s with ⟨-, h⟩ | ⟨-, -, -, -, h⟩ | ⟨-, -, h⟩ | ⟨-, -, h⟩ <;> rw [h]
  · exact .refl s
  · exact .of_views
  · exact .refl s
  · exact enterOrDisplace_probingKept r s

theorem withdraw_probingKept (r : Request) (s : State) : ProbingKept s (withdraw r s) := by
  rcases withdraw_cases r s with ⟨-, h⟩ | ⟨-, -, -, h⟩ | ⟨-, h⟩ <;> rw [h]
  · exact .of_views
  · exact ProbingKept.trans .of_views (fixHead_probingKept _)
  · exact .of_views

/-! ### The Probe Scheduler (R44 to R57) -/

/-- RESTING with its probe timer, from listen-only on. -/
theorem restWithNewProbe_probingKept {s : State} (hl : s.live = true) : ProbingKept s (restWithNewProbe s) := by
  refine (ProbingKept.draw s).trans (.of_sched fun h => ?_)
  obtain ⟨hbrisk, -⟩ := h
  exact ⟨hbrisk, by simp [hl], by simp, by simp, by simp, by simp [hl]⟩

theorem reloadForBrisk_probingKept (s : State) : ProbingKept s (reloadForBrisk s) := by
  refine (ProbingKept.draw s).trans (.of_sched fun h => ?_)
  simpa [State.SchedulerSound] using h

theorem enterBrisk_probingKept (duration : Nat) (s : State) : ProbingKept s (enterBrisk duration s) := by
  have entered : ProbingKept s (s.withSched { s.sched with mode := .brisk, brisk := some duration }) :=
    .of_sched fun h => by
      obtain ⟨-, hrest⟩ := h
      exact ⟨by simp, hrest⟩
  rcases enterBrisk_cases duration s with ⟨hm, h⟩ | ⟨-, -, h⟩ | ⟨-, -, h⟩ <;> rw [h]
  · exact .of_sched fun h => by
      obtain ⟨-, hrest⟩ := h
      exact ⟨by simp [hm], hrest⟩
  · exact entered.trans (reloadForBrisk_probingKept _)
  · exact entered

/-- A retry delay runs for a scheduler that waits. -/
theorem startRetryDelay_probingKept {s : State} (hw : s.sched.state = .wanting) : ProbingKept s (startRetryDelay s) := by
  refine (ProbingKept.draw s).trans (.of_sched fun h => ?_)
  obtain ⟨hbrisk, hprobe, hdeadline, hwait, hretry, hlive⟩ := h
  exact ⟨hbrisk, hprobe, hdeadline, by simp [hw], by simp, hlive⟩

theorem schedNotAdmitted_probingKept (s : State) : ProbingKept s (schedNotAdmitted s) := by
  rcases schedNotAdmitted_cases s with h | ⟨hw, hq, ⟨-, h⟩ | ⟨-, h⟩⟩ <;> rw [h]
  · exact .refl s
  · exact startRetryDelay_probingKept hw
  · refine .of_sched fun hs => ?_
    obtain ⟨hbrisk, hprobe, hdeadline, hwait, hretry, hlive⟩ := hs
    exact ⟨hbrisk, hprobe, hdeadline, by simp [hw], by simpa [hq] using hretry, hlive⟩

theorem schedListed_probingKept {s : State} (hl : s.live = true) : ProbingKept s (schedListed s) := by
  rcases schedListed_cases s with ⟨-, h⟩ | ⟨-, h⟩ <;> rw [h]
  · exact .refl s
  · refine .of_sched fun hs => ?_
    obtain ⟨hbrisk, -⟩ := hs
    exact ⟨hbrisk, by simp, by simp, by simp, by simp, by simp [hl]⟩

theorem schedClose_probingKept {s : State} (hl : s.live = true) : ProbingKept s (schedClose s) := by
  rcases schedClose_cases s with ⟨-, h⟩ | ⟨hw, -, h⟩ | ⟨-, h⟩ <;> rw [h]
  · exact restWithNewProbe_probingKept hl
  · exact startRetryDelay_probingKept hw
  · exact .refl s

/-- A queueing decision gives a wait, and a retry delay exactly with wait DELAY. -/
theorem queueingDecision_cases (s : State) :
    ∃ wait retry, ((retry : Timer).isSome = true ↔ wait = Wait.delay) ∧
      let decided := s.withSched { s.sched with wait := some wait, retry := retry }
      (queueingDecision s = decided ∨ queueingDecision s = offer .callJoin decided) := by
  unfold queueingDecision
  split
  · exact ⟨.delay, some _, by simp, .inl rfl⟩
  · split
    · exact ⟨.queued, none, by simp, .inr rfl⟩
    · exact ⟨.closeWait, none, by simp, .inl rfl⟩

/-- A queueing decision keeps what every wait with its retry delay keeps. -/
theorem queueingDecision_probingKept {s u : State}
    (h : ∀ wait retry, ((retry : Timer).isSome = true ↔ wait = Wait.delay) →
      ProbingKept s (u.withSched { u.sched with wait := some wait, retry := retry })) :
    ProbingKept s (queueingDecision u) := by
  obtain ⟨wait, retry, hretry, e | e⟩ := queueingDecision_cases u <;> rw [e]
  · exact h wait retry hretry
  · exact (h wait retry hretry).trans (offer_probingKept _ _)

/-! ### Commands of the scheduler (R50 to R55) -/

theorem becomeWanting_probingKept {s : State} (hl : s.live = true) : ProbingKept s (becomeWanting s) := by
  refine queueingDecision_probingKept fun wait retry hretry => .of_sched fun hs => ?_
  obtain ⟨hbrisk, -⟩ := hs
  exact ⟨hbrisk, by simp, by simp, by simp, by simpa using hretry, by simp [hl]⟩

/-- The retry delay runs out: the decision is made again. -/
theorem retryDelay_probingKept {s : State} (hw : s.sched.state = .wanting) :
    ProbingKept s (queueingDecision (s.withSched { s.sched with retry := none })) := by
  refine queueingDecision_probingKept fun wait retry hretry => .of_sched fun hs => ?_
  obtain ⟨hbrisk, hprobe, hdeadline, -, -, hlive⟩ := hs
  exact ⟨hbrisk, hprobe, hdeadline, by simp [hw], by simpa using hretry, hlive⟩

theorem giveUpTurn_probingKept {s : State} (hl : s.live = true) : ProbingKept s (giveUpTurn s) := by
  unfold giveUpTurn
  split
  · refine (withdraw_probingKept .callJoin s).trans (ProbingKept.trans .of_views (restWithNewProbe_probingKept ?_))
    simpa [(withdraw_probingKept .callJoin s).live] using hl
  · exact ProbingKept.trans .of_views (restWithNewProbe_probingKept (by simpa using hl))

theorem briskEnd_probingKept (s : State) :
    ProbingKept s (s.withSched { s.sched with mode := .normal, brisk := none }) := by
  refine .of_sched fun hs => ?_
  obtain ⟨-, hrest⟩ := hs
  exact ⟨by simp, hrest⟩

/-! ### Lamp, zone and election: what they offer to the queue is all that reaches the blocks of a round -/

theorem localPresence_probingKept (s : State) : ProbingKept s (localPresence s) := by
  have present (u : State) : ProbingKept u (zonePresence u) := .of_views
  unfold localPresence
  split
  · exact (offer_probingKept _ s).trans (present _)
  · exact present s

theorem zoneChange_probingKept (root : Station) (save : Bool) (s : State) : ProbingKept s (zoneChange root save s) := by
  obtain ⟨lit, hlit, h⟩ := zoneChange_cases root save s
  have kept : ProbingKept s lit := by
    rcases hlit with rfl | rfl
    · exact .of_views
    · exact ProbingKept.trans .of_views (offer_probingKept _ _)
  rw [h]
  split <;> exact kept.trans .of_views

theorem announcementCheck_probingKept (s : State) : ProbingKept s (announcementCheck s) := by
  rcases announcementCheck_cases s with ⟨-, -, -, h⟩ | h <;> rw [h]
  · exact offer_probingKept _ s
  · exact .refl s

theorem takeDerived_probingKept (c : Candidate) (s : State) : ProbingKept s (takeDerived c s) := by
  unfold takeDerived
  refine ProbingKept.trans (.of_views ?_) (announcementCheck_probingKept _)
  dsimp only
  split <;> simp

theorem derive_probingKept (s : State) : ProbingKept s (derive s) := by
  rcases derive_cases s with ⟨-, h⟩ | ⟨-, -, -, h⟩ | ⟨-, -, h⟩ <;> rw [h]
  · exact .refl s
  · exact .refl s
  · exact takeDerived_probingKept _ s

theorem firstDerivation_probingKept (s : State) : ProbingKept s (firstDerivation s) := by
  unfold firstDerivation
  refine ProbingKept.trans (.of_views ?_) (announcementCheck_probingKept _)
  dsimp only
  split <;> split <;> simp

theorem ageOutRoot_probingKept (s : State) (i : Nat) : ProbingKept s (ageOutRoot s i) := by
  unfold ageOutRoot
  split
  · split
    · exact ProbingKept.trans .of_views (derive_probingKept _)
    · exact .refl s
  · exact .refl s

theorem ageRoots_probingKept (s : State) : ProbingKept s (ageRoots s) :=
  ProbingKept.trans .of_views (ProbingKept.foldl ageOutRoot_probingKept _ _)

/-! ### The Neighbour Table -/

theorem handLinkEvent_probingKept (s : State) : ProbingKept s (handLinkEvent s) :=
  ProbingKept.trans .of_views (derive_probingKept _)

theorem evaluateSlot_probingKept (i : Nat) (s : State) : ProbingKept s (evaluateSlot i s) := by
  rcases evaluateSlot_cases i s with h | ⟨e, link, -, -, -, h | h⟩ <;> rw [h]
  · exact .refl s
  · exact .of_views
  · exact ProbingKept.trans .of_views (handLinkEvent_probingKept _)

theorem takeShift_probingKept (s : State) : ProbingKept s (takeShift s) := by
  have told := enterBrisk_probingKept (seconds 600) s
  rcases takeShift_cases s with h | h <;> rw [h]
  · exact told
  · exact told.trans (ProbingKept.trans .of_views (offer_probingKept _ _))

theorem storeSeen_probingKept (i k : Nat) (s : State) : ProbingKept s (storeSeen i k s) := by
  unfold storeSeen
  split
  · exact .refl s
  · dsimp only
    refine ProbingKept.trans ?_ (evaluateSlot_probingKept i _)
    split
    · exact ProbingKept.trans .of_views (takeShift_probingKept _)
    · exact .of_views

theorem storeTold_probingKept (i v : Nat) (s : State) : ProbingKept s (storeTold i v s) := by
  unfold storeTold
  split
  · exact .refl s
  · exact ProbingKept.trans .of_views (evaluateSlot_probingKept i _)

theorem takeResult_probingKept (s : State) (r : ProbeResult) : ProbingKept s (takeResult s r) := by
  unfold takeResult
  split
  · split
    · exact storeSeen_probingKept _ _ s
    · exact .of_views
  · exact .refl s

theorem takeResults_probingKept (results : List ProbeResult) (s : State) : ProbingKept s (takeResults results s) := by
  unfold takeResults
  dsimp only
  refine ProbingKept.trans (.of_views ?_) (ProbingKept.foldl takeResult_probingKept _ _)
  split <;> simp

theorem composeTally_probingKept (results : List ProbeResult) (s : State) : ProbingKept s (composeTally results s) := by
  unfold composeTally
  split
  · exact .refl s
  · exact offer_probingKept _ s

theorem takeTallyItem_probingKept (sender : Station) (s : State) (item : Station × Half) :
    ProbingKept s (takeTallyItem sender s item) := by
  unfold takeTallyItem
  split
  · split
    · exact storeTold_probingKept _ _ s
    · exact .of_views
  · exact .refl s

theorem takeTally_probingKept (sender : Station) (items : List (Station × Half)) (s : State) :
    ProbingKept s (takeTally sender items s) := by
  unfold takeTally
  split
  · exact .refl s
  · exact ProbingKept.foldl (takeTallyItem_probingKept sender) items s

theorem ageOutEntry_probingKept (s : State) (i : Nat) : ProbingKept s (ageOutEntry s i) := by
  unfold ageOutEntry
  split
  · split
    · split
      · exact ProbingKept.trans .of_views (handLinkEvent_probingKept _)
      · exact .of_views
    · exact .refl s
  · exact .refl s

theorem ageTable_probingKept (s : State) : ProbingKept s (ageTable s) := by
  unfold ageTable
  split
  · exact .refl s
  · exact ProbingKept.trans .of_views (ProbingKept.foldl ageOutEntry_probingKept _ _)

theorem takeClaim_probingKept (sender : Station) (c : Claim) (values : Option (Half × Byte)) (s : State) :
    ProbingKept s (takeClaim sender c values s) := by
  have derivedWhere (b : Bool) (u : State) : ProbingKept u (if b then derive u else u) := by
    cases b
    · exact .refl u
    · exact derive_probingKept u
  unfold takeClaim
  exact ProbingKept.trans .of_views (derivedWhere _ _)

theorem clearEntry_probingKept (s : State) (i : Nat) : ProbingKept s (clearEntry s i) := by
  unfold clearEntry
  split
  · split
    · exact ProbingKept.trans .of_views (derive_probingKept _)
    · exact .of_views
  · exact .refl s

theorem emptyTable_probingKept (s : State) : ProbingKept s (emptyTable s) :=
  ProbingKept.foldl clearEntry_probingKept _ s

/-! ### Service notices -/

theorem takeStir_probingKept (sender : Station) (s : State) : ProbingKept s (takeStir sender s) := by
  unfold takeStir
  split
  · exact enterBrisk_probingKept _ s
  · exact .refl s

theorem takeAsk_probingKept (target : Station) (page : Byte) (s : State) : ProbingKept s (takeAsk target page s) := by
  unfold takeAsk
  split
  · exact offer_probingKept _ s
  · exact .refl s

theorem takeSet_probingKept (target : Station) (item : Byte) (value : Half) (s : State) :
    ProbingKept s (takeSet target item value s) := by
  unfold takeSet
  split
  · exact .of_views
  · exact .refl s

theorem forgetZone_probingKept (s : State) : ProbingKept s (forgetZone s) := by
  rcases forgetZone_cases s with ⟨-, h⟩ | ⟨-, h⟩ <;> rw [h]
  · exact .of_views
  · exact ProbingKept.trans .of_views (zoneChange_probingKept _ _ _)

theorem takeForget_probingKept (target : Station) (s : State) : ProbingKept s (takeForget target s) := by
  unfold takeForget
  split
  · exact ProbingKept.trans .of_views
      (ProbingKept.anyOrder emptyTable_probingKept forgetZone_probingKept (enterBrisk_probingKept _) _)
  · exact .refl s

/-! ### The line -/

theorem winLine_probingKept (e a : Nat) (r : Request) (s : State) : ProbingKept s (winLine e a r s) := by
  rcases winLine_cases e a r s with ⟨body, h⟩ | h | h <;> rw [h]
  · exact .of_views
  · exact ProbingKept.trans .of_views (fixHead_probingKept _)
  · exact ProbingKept.trans .of_views ((schedNotAdmitted_probingKept _).trans (fixHead_probingKept _))

theorem dropRequest_probingKept (r : Request) (s : State) : ProbingKept s (dropRequest r s) := by
  unfold dropRequest
  dsimp only
  split
  · exact ProbingKept.trans .of_views (schedNotAdmitted_probingKept _)
  · exact .of_views

theorem loseAttempt_probingKept (e a : Nat) (r : Request) (s : State) : ProbingKept s (loseAttempt e a r s) := by
  rcases loseAttempt_cases e a r s with ⟨-, h⟩ | ⟨-, -, h⟩ | ⟨-, -, h⟩ <;> rw [h]
  · exact dropRequest_probingKept r s
  · exact .of_views
  · exact .of_views

theorem resumeBackoff_probingKept (s : State) : ProbingKept s (resumeBackoff s) := by
  unfold resumeBackoff
  split
  · exact .of_views
  · exact (ProbingKept.draw s).trans .of_views
  · exact .refl s

/-! ### The round view (R2 to R20) -/

/-- A round that goes on: the prober list and the own position stay, and the slot timer has not run past an untaken
GUARD_START. -/
theorem State.RoundSound.goes_on {s t : State} (h : s.RoundSound) (hopen : s.round.phase ≠ .none)
    (hopen' : t.round.phase ≠ .none)
    (hview : t.round.probers = s.round.probers ∧ t.round.own = s.round.own ∧ t.station = s.station ∧ t.live = s.live)
    (hguard : t.round.phase = .opening → t.round.timer.guardPassed = false →
      t.round.timer.slot < 12 ∨
        (t.round.timer.slot = 12 ∧ t.round.timer.tick = 0 ∧ t.round.timer.prescaler = 0)) : t.RoundSound := by
  obtain ⟨hlen, hpos, hnodup, hrec, -, hne, hown, -, hlive⟩ := h
  obtain ⟨eprobers, eown, estation, elive⟩ := hview
  unfold State.RoundSound
  rw [eprobers, eown, estation, elive]
  exact ⟨hlen, hpos, hnodup, hrec, fun hn => absurd hn hopen', fun _ => hne hopen, hown, hguard,
    fun hl => absurd (hlive hl) hopen⟩

/-- A round runs only in a part that is live. -/
theorem State.RoundSound.live_of_phase {s : State} (h : s.RoundSound) (hp : s.round.phase ≠ .none) : s.live = true := by
  obtain ⟨-, -, -, -, -, -, -, -, hlive⟩ := h
  by_contra hl
  exact hp (hlive (by simpa using hl))

theorem State.SenseSound.round {s : State} (h : s.SenseSound) : senseRoundSound s.round s.sense.round := h.1

/-- The state of the Sense Unit is sound where its round state is, with the rest of it unchanged. -/
theorem State.SenseSound.of_round {s t : State} (h : s.SenseSound) (hround : senseRoundSound t.round t.sense.round)
    (hrest : t.sense.lightConverting = s.sense.lightConverting ∧ t.sense.burst = s.sense.burst ∧
      t.sense.lastSelf = s.sense.lastSelf)
    (hl : t.live = s.live) : t.SenseSound := by
  obtain ⟨-, hburst, hself, hone, hlive⟩ := h
  obtain ⟨elight, eburst, eself⟩ := hrest
  unfold State.SenseSound State.temperatureConverting at *
  rw [elight, eburst, eself, hl]
  exact ⟨hround, hburst, hself, hone, hlive⟩

/-- SAMPLING and READY do not depend on the view beyond its phase and its mark. -/
theorem senseRoundSound_congr {v w : RoundController} {r : SenseRound} (h : senseRoundSound v r)
    (hp : w.phase = v.phase) (hd : w.disordered = v.disordered) : senseRoundSound w r := by
  cases r with
  | idle => trivial
  | sampling d => simpa only [senseRoundSound, hp, hd] using h
  | ready results judgement => simpa only [senseRoundSound, hp, hd] using h

/-- Outside CHIPS and SETTLE the Sense Unit is idle (R30). -/
theorem senseRound_idle {v : RoundController} {r : SenseRound} (h : senseRoundSound v r) (hc : v.phase ≠ .chips)
    (hs : v.phase ≠ .settle) : r = .idle := by
  cases r with
  | idle => rfl
  | sampling d => exact absurd h.1 hc
  | ready results judgement => exact absurd h.1 hs

/-- The round view and the Sense Unit move; the scheduler and the generator stand. -/
theorem State.ProbingSound.of_round {s t : State} (hs : s.ProbingSound) (hround : t.RoundSound) (hsense : t.SenseSound)
    (h : t.sched = s.sched ∧ t.rng = s.rng ∧ t.phase = s.phase := by simp) : t.ProbingSound := by
  obtain ⟨hsched, hrng, hphase⟩ := h
  exact ⟨hround, hsense, hs.scheduler.congr hsched (State.live_congr hphase),
    by unfold State.GeneratorRuns; rw [hrng]; exact hs.generator⟩

/-- What marking the view disordered leaves of it. -/
theorem markDisordered_view (s : State) :
    (markDisordered s).round = { s.round with disordered := true } ∧ (markDisordered s).station = s.station := by
  rcases markDisordered_cases s with ⟨hd, h⟩ | ⟨-, h⟩ <;> rw [h]
  · exact ⟨by rw [← hd], rfl⟩
  · exact ⟨rfl, rfl⟩

theorem markDisordered_roundSound {s : State} (h : s.RoundSound) (hp : s.round.phase ≠ .none) :
    (markDisordered s).RoundSound := by
  obtain ⟨eround, estation⟩ := markDisordered_view s
  refine h.goes_on hp (by rw [eround]; exact hp)
    ⟨by rw [eround], by rw [eround], estation, State.live_congr (by simp)⟩ ?_
  rw [eround]
  obtain ⟨-, -, -, -, -, -, -, hguard, -⟩ := h
  exact hguard

/-- The view disordered while the Sense Unit has no round (R12, R15). -/
theorem markDisordered_sound {s : State} (hs : s.ProbingSound) (hp : s.round.phase = .opening) :
    (markDisordered s).ProbingSound := by
  refine hs.of_round (markDisordered_roundSound hs.round (by simp [hp]))
    (hs.sense.of_round ?_ (by simp) (State.live_congr (by simp)))
  have hidle := senseRound_idle hs.sense.round (by simp [hp]) (by simp [hp])
  simp [hidle, senseRoundSound]

/-- An abandoned round leaves the Sense Unit idle, unless it was READY. -/
theorem abandonRound_cases (s : State) :
    abandonRound s = s.withSense { s.sense with round := .idle } ∨
      ((∀ d, s.sense.round ≠ .sampling d) ∧ abandonRound s = s) := by
  unfold abandonRound
  split
  · exact .inl rfl
  · rename_i h; exact .inr ⟨h, rfl⟩

/-- A CALL in CHIPS: the view is disordered, and the round abandoned (R12, R17, R31). -/
theorem abandonDisordered_sound {s : State} (hs : s.ProbingSound) (hp : s.round.phase = .chips) :
    (abandonRound (markDisordered s)).ProbingSound := by
  have hround := markDisordered_roundSound hs.round (by simp [hp])
  have hlive : (markDisordered s).live = s.live := State.live_congr (by simp)
  rcases abandonRound_cases (markDisordered s) with e | ⟨hno, e⟩ <;> rw [e]
  · exact hs.of_round hround (hs.sense.of_round (by simp [senseRoundSound]) (by simp) hlive)
  · have hidle : s.sense.round = .idle := by
      cases hr : s.sense.round with
      | idle => rfl
      | sampling d => exact absurd (by simpa using hr) (hno d)
      | ready results judgement =>
        have hready := hs.sense.round
        rw [hr] at hready
        exact absurd hready.1 (by simp [hp])
    exact hs.of_round hround (hs.sense.of_round (by simp [hidle, senseRoundSound]) (by simp) hlive)

/-- A depth byte is one of the four depths. -/
theorem depthAllowed_of_depthByte {d : Byte} (h : depthByte d = true) : depthAllowed d.toNat := by
  simpa [depthByte] using h

/-- A view that a CALL opens: one record, at position 1 (R11). -/
theorem openedView_sound {s : State} (hs : s.ProbingSound) (hl : s.live = true) (hp : s.round.phase = .none)
    {sender : Station} {depth : Nat} (hsender : isNode sender = true) (hdepth : depthAllowed depth) (own : Option Nat)
    (hown : ∀ p ∈ own, p = 1 ∧ sender = s.station) :
    (s.withRound
      { s.round with
        phase := .opening, probers := [⟨sender, depth, 1⟩], own := own, disordered := false,
        timer := .anchored }).ProbingSound := by
  have hidle := senseRound_idle hs.sense.round (by simp [hp]) (by simp [hp])
  refine hs.of_round ?_ (hs.sense.of_round (by simp [hidle, senseRoundSound]) (by simp) rfl)
  refine ⟨by simp, by simp, by simp, by simp [hdepth, hsender], by simp, by simp, ?_,
    by simp [SlotTimer.anchored, SlotTimer.stopped], by simp [hl]⟩
  rintro p hp
  obtain ⟨rfl, hst⟩ := hown p hp
  exact ⟨_, List.mem_singleton.mpr rfl, rfl, hst⟩

/-- A CALL opens a view, disorders it, or comes to nothing (R11 to R13). -/
theorem takeCall_sound {s : State} (hs : s.ProbingSound) (hl : s.live = true) {sender : Station} {depth : Nat}
    (hsender : isNode sender = true) (hdepth : depthAllowed depth) : (takeCall sender depth s).ProbingSound := by
  unfold takeCall
  split
  · rename_i hp
    have opened := openedView_sound hs hl hp hsender hdepth
    dsimp only
    split
    · exact (schedListed_probingKept (by simpa using hl)).sound (opened _ (by simp_all))
    · exact opened _ (by simp)
  · rename_i hp; exact markDisordered_sound hs hp
  · rename_i hp; exact abandonDisordered_sound hs hp
  · exact hs

/-- A view to which a JOIN appends a record at the next position (R14). -/
theorem joinedView_sound {s : State} (hs : s.ProbingSound) (hp : s.round.phase = .opening) {sender : Station}
    {depth : Nat} (hsender : isNode sender = true) (hdepth : depthAllowed depth) (hroom : s.round.probers.length + 1 ≤ 6)
    (hnew : ¬ s.round.probers.any (fun r => decide (r.station = sender))) (own : Option Nat)
    (hown : ∀ p ∈ own, p ∈ s.round.own ∨ (p = s.round.probers.length + 1 ∧ sender = s.station)) :
    (s.withRound
      { s.round with
        probers := s.round.probers ++ [⟨sender, depth, s.round.probers.length + 1⟩], own := own }).ProbingSound := by
  have hl := hs.round.live_of_phase (by simp [hp])
  obtain ⟨-, hplaces, hnodup, hrec, -, -, hold, hguard, -⟩ := hs.round
  refine hs.of_round ?_ (hs.sense.of_round (senseRoundSound_congr hs.sense.round rfl rfl) (by simp) rfl)
  refine ⟨by simpa using hroom, ?_, ?_, ?_, by simp [hp], by simp, ?_, hguard, by simp [hl]⟩
  · simp [hplaces, List.range'_concat, Nat.add_comm]
  · simp only [State.withRound_round, List.map_append, List.map_cons, List.map_nil]
    refine List.nodup_append.mpr ⟨hnodup, by simp, ?_⟩
    simpa using hnew
  · simp only [State.withRound_round, List.mem_append, List.mem_singleton]
    rintro r (hr | rfl)
    · exact hrec r hr
    · exact ⟨hdepth, hsender⟩
  · simp only [State.withRound_round, List.mem_append, List.mem_singleton]
    intro p hp
    rcases hown p hp with hp | ⟨rfl, hmine⟩
    · obtain ⟨r, hr, hrp⟩ := hold p hp
      exact ⟨r, .inl hr, hrp⟩
    · exact ⟨_, .inr rfl, rfl, hmine⟩

/-- A JOIN appends a prober, disorders the view, or comes to nothing (R14 to R16). -/
theorem takeJoin_sound {s : State} (hs : s.ProbingSound) {sender : Station} {depth position : Nat}
    (hsender : isNode sender = true) (hdepth : depthAllowed depth) (hpos : position ≤ 6) :
    (takeJoin sender depth position s).ProbingSound := by
  unfold takeJoin
  split
  · rename_i hp
    have hl := hs.round.live_of_phase (by simp [hp])
    split
    · rename_i hnext
      obtain ⟨rfl, hnew⟩ := hnext
      have joined := joinedView_sound hs hp hsender hdepth hpos hnew
      dsimp only
      split
      · exact (schedListed_probingKept (by simpa using hl)).sound (joined _ (by simp_all))
      · exact joined _ fun p hp => .inl hp
    · exact markDisordered_sound hs hp
  · exact hs
  · exact hs
  · exact hs

/-! ### Notices taken (R166, R167) -/

/-- What the judgement passes is of a sender and in a body the rules allow. -/
def Notice.InRange (n : Notice) : Prop := n.sender ≠ 0 ∧ bodyInRange n.sender n.body = true

theorem judgeFields_passes {sender : Station} {known : Bool} {body : Option Body} {n : Notice}
    (h : judgeFields sender known body = .passes n) : Notice.InRange n := by
  unfold judgeFields at h
  split at h
  · cases h
  · rename_i hsender
    split at h
    · cases h
    · split at h
      · cases h
      · split at h
        · rename_i hbody
          cases h
          exact ⟨hsender, hbody⟩
        · cases h

theorem judgeNotice_passes {m n : Notice} (h : judgeNotice m = .passes n) : Notice.InRange n := by
  unfold judgeNotice at h
  split at h
  · cases h
  · exact judgeFields_passes h

theorem judge_passes {raw : Collected} {n : Notice} (h : judge raw = .passes n) : Notice.InRange n := by
  unfold judge at h
  split at h
  · cases h
  · split at h
    · split_ifs at h
      exact judgeFields_passes h
    · cases h

/-- A sender that is no tool is a node. -/
theorem isNode_of_not_isTool {sender : Station} (h0 : sender ≠ 0) (ht : isTool sender = false) : isNode sender = true := by
  simpa [isNode, ht] using h0

/-- A notice in range, delivered in a part that is live, leaves the round sound. -/
theorem deliver_sound {s : State} (hs : s.ProbingSound) (hl : s.live = true) {n : Notice} (hn : Notice.InRange n) :
    (deliver n s).ProbingSound := by
  obtain ⟨sender, body⟩ := n
  obtain ⟨h0, hbody⟩ := hn
  cases body with
  | call d =>
    simp only [bodyInRange, Bool.and_eq_true, Bool.not_eq_true'] at hbody
    obtain ⟨hd, ht⟩ := hbody
    exact takeCall_sound hs hl (isNode_of_not_isTool h0 ht) (depthAllowed_of_depthByte hd)
  | join d p =>
    simp only [bodyInRange, Bool.and_eq_true, Bool.not_eq_true', decide_eq_true_eq] at hbody
    obtain ⟨⟨⟨hd, -⟩, hp⟩, ht⟩ := hbody
    exact takeJoin_sound hs (isNode_of_not_isTool h0 ht) (depthAllowed_of_depthByte hd) hp
  | tally items => exact (takeTally_probingKept sender items s).sound hs
  | stir cause => exact (takeStir_probingKept sender s).sound hs
  | survey minutes => exact (enterBrisk_probingKept _ s).sound hs
  | claim root hops generation values => exact (takeClaim_probingKept sender _ values s).sound hs
  | presence zone =>
    have kept : ProbingKept s (takePresence zone s) := .of_views
    exact kept.sound hs
  | warmth zone temperature =>
    have kept : ProbingKept s (takeWarmth sender zone temperature.toInt s) := .of_views
    exact kept.sound hs
  | ask target page => exact (takeAsk_probingKept target page s).sound hs
  | answer page content => exact hs
  | set target item value => exact (takeSet_probingKept target item value s).sound hs
  | forget target => exact (takeForget_probingKept target s).sound hs

/-- A verdict acted on: what it passes is in range. -/
theorem applyVerdict_sound {s : State} (hs : s.ProbingSound) (hl : s.live = true) {v : Verdict}
    (hv : ∀ n, v = .passes n → Notice.InRange n) : (applyVerdict v s).ProbingSound := by
  rcases applyVerdict_cases v s with ⟨-, h⟩ | ⟨-, h⟩ | ⟨n, hn, h⟩ <;> rw [h]
  · have kept : ProbingKept s (s.count fun c => { c with badNotices := bump c.badNotices }) := .of_views
    exact kept.sound hs
  · exact hs
  · exact deliver_sound hs hl (hv n hn)

/-- The framer takes notices in a part that is live. -/
theorem live_of_framing {s : State} (h : s.framing = true) : s.live = true := by
  simp only [State.framing, Bool.and_eq_true] at h
  exact h.1.1

theorem lineIdleThree_probingKept (s : State) : ProbingKept s (lineIdleThree s) := .of_views

theorem receive_sound {s : State} (hs : s.ProbingSound) (n : Notice) : (receive n s).ProbingSound := by
  have heard := lineIdleThree_probingKept s
  rcases receive_cases n s with ⟨-, h⟩ | ⟨hf, h⟩ <;> rw [h]
  · exact hs
  · exact applyVerdict_sound (heard.sound hs) (heard.live.trans (live_of_framing hf)) fun _ => judgeNotice_passes

theorem receiveBytes_sound {s : State} (hs : s.ProbingSound) (raw : Collected) : (receiveBytes raw s).ProbingSound := by
  have heard := lineIdleThree_probingKept s
  rcases receiveBytes_cases raw s with ⟨-, -, h⟩ | ⟨-, -, -, h⟩ | ⟨hf, h⟩ <;> rw [h]
  · exact hs
  · exact ProbingKept.sound .of_views hs
  · exact applyVerdict_sound (heard.sound hs) (heard.live.trans (live_of_framing hf)) fun _ => judge_passes

/-- A notice of this node's own, looped back at its completion (R178). -/
theorem completeNotice_sound {s : State} (hs : s.ProbingSound) (hl : s.live = true) {n : Notice}
    (hn : Notice.InRange n) (r : Request) : (completeNotice n r s).ProbingSound := by
  have told (l : LineInterface) : ProbingKept s (reportCompletion n (s.withLine l)) := by
    unfold reportCompletion
    split <;> exact .of_views
  unfold completeNotice
  dsimp only
  split
  · exact deliver_sound ((told _).sound hs) ((told _).live.trans hl) hn
  · exact (told _).sound hs

/-! ### Sampling (R30, R33 to R39) -/

/-- The correlation grows by the signed sum of the next chip. -/
theorem correlationOf_concat (code : Option Nat) (sums : List Nat) (c : Nat) :
    correlationOf code (sums ++ [c]) = correlationOf code sums + signedSum code sums.length c := by
  simp [correlationOf, List.mapIdx_concat]

/-- The codes of a chip sum to no more than 4095 each. -/
theorem sum_codes_le (codes : List AdcCode) : (codes.map BitVec.toNat).sum ≤ codes.length * 4095 := by
  have hle : ∀ x ∈ codes.map BitVec.toNat, x ≤ 4095 := by
    simp only [List.mem_map]
    rintro x ⟨code, -, rfl⟩
    exact Nat.le_of_lt_succ code.isLt
  simpa using List.sum_le_card_nsmul _ _ hle

namespace Sampling.Sound

variable {d : Sampling}

/-- SAMPLING starts with no chip taken and every correlation 0 (R30). -/
theorem start {records : List ProberRecord} (h : recordsSound records) (own : Option Nat) :
    (Sampling.start records own).Sound := by
  refine ⟨h, by simp [Sampling.start], rfl, by simp [Sampling.start], by simp [Sampling.start], rfl, fun i hi => ?_, rfl⟩
  have hzero : (List.replicate 6 (0 : Int)).getD i 0 = 0 := by
    rw [List.getD_eq_getElem _ _ (by simpa using hi), List.getElem_replicate]
  have hnone : ∀ code, correlationOf code [] = 0 := fun _ => rfl
  simp only [Sampling.start, hzero, hnone, ite_self]

/-- A chip sum keeps every accumulator at the correlation of the sums taken (R33). -/
theorem addChip (h : d.Sound) (hchip : d.chip < 16) {sum : Nat} (hsum : sum ≤ 16380) : (d.addChip sum).Sound := by
  obtain ⟨hrec, -, hlen, -, hle, hsix, haccs, hnull⟩ := h
  refine ⟨hrec, hchip, by simp [Sampling.addChip, hlen], by simp [Sampling.addChip], ?_, by simp [Sampling.addChip, hsix],
    fun i hi => ?_, ?_⟩
  · simp only [Sampling.addChip, List.mem_append, List.mem_singleton]
    rintro c (hc | rfl)
    · exact hle c hc
    · exact hsum
  · have hacc := haccs i hi
    rw [List.getD_eq_getElem _ _ (by omega)] at hacc
    rw [List.getD_eq_getElem _ _ (by simpa [Sampling.addChip, hsix] using hi)]
    simp only [Sampling.addChip, List.getElem_mapIdx, hacc, correlationOf_concat, hlen]
    change (if d.assigned (i + 1) then _ else _) = if d.assigned (i + 1) then _ else _
    split <;> rfl
  · simp only [Sampling.addChip, hnull, correlationOf_concat, hlen]

/-- A code joins the running chip, and the fourth forms its sum (R33, R34). -/
theorem takeCode (h : d.Sound) (code : AdcCode) : (d.takeCode code).Sound := by
  unfold Sampling.takeCode
  split
  · rename_i hchip
    obtain ⟨hrec, hle16, hlen, hcodes, hrest⟩ := h
    have marked (codes : List AdcCode) (hc : codes.length < 4) (clip : Bool) :
        Sampling.Sound { d with codes := codes, clip := clip } := ⟨hrec, hle16, hlen, hc, hrest⟩
    dsimp only
    split
    · rename_i hfour
      have hsum := sum_codes_le (d.codes ++ [code])
      rw [hfour] at hsum
      exact (marked [] (by simp) _).addChip hchip hsum
    · rename_i hfour
      simp only [List.length_append, List.length_singleton] at hfour
      exact marked _ (by simp only [List.length_append, List.length_singleton]; omega) _
  · exact h

/-- An outcome's index is limited to 4095 (R39). -/
theorem findingOf_inRange (d : Sampling) (gain : Nat) (r : ProberRecord) : findingInRange (d.findingOf gain r) := by
  unfold Sampling.findingOf
  split
  · trivial
  · trivial
  · simp only [findingInRange, couplingIndex]
    split <;> omega

end Sampling.Sound

/-- The computation makes one result of each record (R35 to R40). -/
theorem senseRoundSound_compute {v w : RoundController} {r : SenseRound} (h : senseRoundSound v r) (gain : Nat)
    (hv : v.phase = .chips) (hw : w.phase = .settle) (hd : w.disordered = v.disordered) :
    senseRoundSound w (r.compute gain) := by
  cases r with
  | idle => trivial
  | sampling d =>
    obtain ⟨-, hord, ⟨hlen, -, hnodup, hrec⟩, -⟩ := h
    refine ⟨hw, hd.trans hord, by simpa [Sampling.results] using hlen,
      by simpa [Sampling.results, Function.comp_def] using hnodup, ?_⟩
    simp only [Sampling.results, List.mem_map]
    rintro _ ⟨r, hr, rfl⟩
    exact ⟨Sampling.Sound.findingOf_inRange d gain r, (hrec r hr).2⟩
  | ready results judgement => exact absurd (hv.symm.trans h.1) (by simp)

/-! ### The slots of a round (R6 to R10, R20) -/

/-- GUARD_START passed (R20). -/
theorem passGuard_sound {s : State} (hs : s.ProbingSound) (hp : s.round.phase = .opening) :
    (passGuard s).ProbingSound := by
  unfold passGuard
  have marked : (s.withRound
      { s.round with timer := { s.round.timer.atSlot 12 with guardPassed := true } }).ProbingSound :=
    hs.of_round (hs.round.goes_on (by simp [hp]) (by simp [hp]) (by simp) (by simp))
      (hs.sense.of_round (senseRoundSound_congr hs.sense.round rfl rfl) (by simp) rfl)
  dsimp only
  split
  · exact (withdraw_probingKept _ _).trans (schedNotAdmitted_probingKept _) |>.sound marked
  · exact marked

/-- The Sense Unit is started, or left. -/
theorem startSense_cases (s : State) :
    (s.round.disordered = false ∧
      startSense s = s.withSense { s.sense with round := .sampling (Sampling.start s.round.probers s.round.own) }) ∨
      startSense s = s := by
  unfold startSense
  split
  · rename_i hd _; exact .inl ⟨hd, rfl⟩
  · exact .inr rfl

/-- CHIPS begins, with SAMPLING on an ordered view (R7, R30). -/
theorem beginChips_sound {s : State} (hs : s.ProbingSound) (hp : s.round.phase = .opening) :
    (beginChips s).ProbingSound := by
  have hidle := senseRound_idle hs.sense.round (by simp [hp]) (by simp [hp])
  have hround (v : RoundController) (hchips : v.phase = .chips) (hview : v.probers = s.round.probers ∧ v.own = s.round.own) :
      (s.withRound v).RoundSound :=
    hs.round.goes_on (by simp [hp]) (by simp [hchips]) ⟨hview.1, hview.2, rfl, rfl⟩ (by simp [hchips])
  unfold beginChips
  rcases startSense_cases _ with ⟨hd, e⟩ | e <;> rw [e]
  · obtain ⟨hlen, hplaces, hnodup, hrec, -⟩ := hs.round
    exact hs.of_round (hround _ rfl ⟨rfl, rfl⟩)
      (hs.sense.of_round ⟨rfl, hd, .start ⟨hlen, hplaces, hnodup, hrec⟩ _⟩ (by simp) rfl)
  · exact hs.of_round (hround _ rfl ⟨rfl, rfl⟩)
      (hs.sense.of_round (by simp [hidle, senseRoundSound]) (by simp) rfl)

/-- In CHIPS the slot timer alone moves. -/
theorem chipsTimer_sound {s : State} (hs : s.ProbingSound) (hp : s.round.phase = .chips) (timer : SlotTimer) :
    (s.withRound { s.round with timer := timer }).ProbingSound :=
  hs.of_round (hs.round.goes_on (by simp [hp]) (by simp [hp]) (by simp) (by simp [hp]))
    (hs.sense.of_round (senseRoundSound_congr hs.sense.round rfl rfl) (by simp) rfl)

theorem signalChip_sound {s : State} (hs : s.ProbingSound) (hp : s.round.phase = .chips) (j : Nat) :
    (signalChip j s).ProbingSound := by
  have kept (u : State) : ProbingKept u (loadChip j u) := .of_views
  exact (kept _).sound (chipsTimer_sound hs hp _)

/-- A Sense Unit that samples is in CHIPS, with the converter free (R26, R33). -/
theorem samplesNow_spec {s : State} (hs : s.ProbingSound) (h : s.samplesNow = true) :
    s.round.phase = .chips ∧ s.temperatureConverting = false := by
  have hsense := hs.sense.round
  unfold State.samplesNow at h
  split at h
  · rename_i d hd
    rw [hd] at hsense
    simp only [Bool.and_eq_true, Bool.not_eq_true'] at h
    exact ⟨hsense.1, h.2⟩
  · cases h

/-- A light conversion starts (R33). -/
theorem startLight_sound {s : State} (hs : s.ProbingSound) (h : s.samplesNow = true) : (startLight s).ProbingSound := by
  obtain ⟨hp, hfree⟩ := samplesNow_spec hs h
  have moved := chipsTimer_sound hs hp
    { s.round.timer with
      tick := max s.round.timer.tick (sampleTick s.round.timer.nextSample)
      nextSample := s.round.timer.nextSample + 1 }
  obtain ⟨hround, hburst, hself, -, hlive⟩ := moved.sense
  exact moved.of_round moved.round ⟨hround, hburst, hself, fun _ => hfree, hlive⟩ ⟨rfl, rfl, rfl⟩

/-! ### The arbiter (R26 to R28, R144) -/

/-- A burst that asks for the converter gets it outside CHIPS, while no light conversion runs. -/
theorem servesTemperature_spec {s : State} (h : s.servesTemperature = true) : s.sense.lightConverting = false := by
  simp only [State.servesTemperature, Bool.and_eq_true, Bool.not_eq_true'] at h
  exact h.2

/-- Another burst at a converter that does one conversion at a time. -/
theorem State.ProbingSound.of_burst {s : State} (hs : s.ProbingSound) {burst : Option Burst}
    (hlen : ∀ b ∈ burst, b.codes.length < 8)
    (hone : s.sense.lightConverting = true → burst.any (fun b => b.converting) = false)
    (hlive : s.live = false → burst = none) : (s.withSense { s.sense with burst := burst }).ProbingSound := by
  obtain ⟨hround, -, hself, -, -⟩ := hs.sense
  exact hs.of_round hs.round ⟨hround, hlen, hself, hone, hlive⟩

theorem requestBurst_sound {s : State} (hs : s.ProbingSound) (hl : s.live = true) : (requestBurst s).ProbingSound := by
  rcases requestBurst_cases s with ⟨-, h⟩ | ⟨-, h⟩ <;> rw [h]
  · refine hs.of_burst (by simp) (fun hlight => ?_) (by simp [hl])
    by_contra hserve
    have := servesTemperature_spec (s := s) (by simpa using hserve)
    simp [hlight] at this
  · exact hs

theorem resumeBurst_sound {s : State} (hs : s.ProbingSound) : (resumeBurst s).ProbingSound := by
  obtain ⟨-, hlen, -, hone, hlive⟩ := hs.sense
  refine hs.of_burst ?_ (fun hlight => ?_) (fun hl => by simp [hlive hl])
  · simp only [Option.mem_def, Option.map_eq_some_iff]
    rintro _ ⟨b, hb, rfl⟩
    exact hlen b hb
  · have hidle : s.servesTemperature = false := by simp [State.servesTemperature, hlight]
    have hbefore := hone hlight
    unfold State.temperatureConverting at hbefore
    cases hb : s.sense.burst <;> simp_all

/-- A light conversion ends (R31, R34). -/
theorem endLight_sound {s : State} (hs : s.ProbingSound) (code : AdcCode) : (endLight code s).ProbingSound := by
  refine resumeBurst_sound (hs.of_round hs.round ?_)
  obtain ⟨hround, hlen, hself, -, hlive⟩ := hs.sense
  refine ⟨?_, hlen, hself, by simp, hlive⟩
  cases hr : s.sense.round with
  | idle => simp [senseRoundSound]
  | sampling d =>
    rw [hr] at hround
    obtain ⟨hp, hd, hsound⟩ := hround
    exact ⟨hp, hd, hsound.takeCode code⟩
  | ready results judgement => rw [hr] at hround; exact hround

/-- A temperature conversion ends (R27). -/
theorem endTemperature_sound {s : State} (hs : s.ProbingSound) (hl : s.live = true) (b : Burst) (code : AdcCode) :
    (endTemperature b code s).ProbingSound := by
  unfold endTemperature
  dsimp only
  split
  · rename_i hlen
    refine hs.of_burst (by simpa using hlen) (fun hlight => ?_) (by simp [hl])
    simp [State.servesTemperature, hlight]
  · have kept (u : State) : ProbingKept u (takeBurst (b.codes ++ [code]) u) := .of_views
    exact (kept _).sound (hs.of_burst (by simp) (by simp) (by simp))

/-! ### SETTLE and the close (R9, R10) -/

/-- SETTLE begins: the computation, and a held burst resumes (R9, R28, R35). -/
theorem beginSettle_sound {s : State} (hs : s.ProbingSound) (hp : s.round.phase = .chips) :
    (beginSettle s).ProbingSound := by
  let view : RoundController := { s.round with phase := .settle, timer := s.round.timer.atSlot 32, override := none }
  have hround : (s.withRound view).RoundSound :=
    hs.round.goes_on (by simp [hp]) (by simp [view]) (by simp [view]) (by simp [view])
  have computed : ((s.withRound view).withSense
      { s.sense with round := s.sense.round.compute s.gain }).ProbingSound :=
    hs.of_round hround
      (hs.sense.of_round (senseRoundSound_compute hs.sense.round s.gain hp rfl rfl) (by simp) rfl)
  refine ProbingKept.sound (.of_views ?_) (resumeBurst_sound computed)
  simp [view, beginSettle, resumeBurst, State.servesTemperature]

/-- The Sense Unit without a round, its last self-coupling in range. -/
theorem idleSense_sound {s : State} (hs : s.ProbingSound) {last : Option Finding}
    (hlast : ∀ f ∈ last, findingInRange f) :
    (s.withSense { s.sense with round := .idle, lastSelf := last }).ProbingSound := by
  obtain ⟨-, hburst, -, hone, hlive⟩ := hs.sense
  exact hs.of_round hs.round ⟨trivial, hburst, hlast, hone, hlive⟩

/-- The last self-coupling after a round: this node's own outcome of it, or the one before (R41). -/
theorem lastSelf_inRange {results : List ProbeResult} (hresults : ∀ r ∈ results, findingInRange r.finding)
    {last : Option Finding} (hlast : ∀ f ∈ last, findingInRange f) (isOwn : ProbeResult → Bool) :
    let own := (results.find? isOwn).map (fun r => r.finding)
    ∀ f ∈ (if own.isSome then own else last), findingInRange f := by
  dsimp only
  split
  · simp only [Option.mem_def, Option.map_eq_some_iff]
    rintro _ ⟨r, hfind, rfl⟩
    exact hresults r (List.mem_of_find?_eq_some hfind)
  · exact hlast

/-- The results handed on, and the Sense Unit idle (R10, R40, R41). -/
theorem deliverResults_sound {s : State} (hs : s.ProbingSound) :
    (deliverResults s).ProbingSound ∧ (deliverResults s).sense.round = .idle := by
  obtain ⟨hround, -, hself, -⟩ := hs.sense
  unfold deliverResults
  split
  · rename_i results judgement hr
    rw [hr] at hround
    obtain ⟨-, -, -, -, hresults⟩ := hround
    have handed (f : Counters → Counters) {last : Option Finding} (hlast : ∀ x ∈ last, findingInRange x) :
        ((s.count f).withSense { (s.count f).sense with round := .idle, lastSelf := last }).ProbingSound :=
      idleSense_sound (ProbingKept.sound .of_views hs) hlast
    have stored (u : State) := takeResults_probingKept results u
    have told (u : State) := (stored u).trans (composeTally_probingKept results _)
    dsimp only
    refine ⟨?_, by split <;> simp⟩
    have hown := lastSelf_inRange (fun r hr => (hresults r hr).1) hself (fun r => decide (r.station = s.station))
    split
    · exact (stored _).sound (handed _ hown)
    · exact (told _).sound (handed _ hown)
  · exact ⟨idleSense_sound hs hself, rfl⟩
  · exact ⟨idleSense_sound hs hself, rfl⟩

/-- The view in NONE, at its reset values. -/
theorem State.RoundSound.of_none {s : State} (h : s.round = State.reset.round) : s.RoundSound := by
  unfold State.RoundSound
  rw [h]
  simp [State.reset]

/-- The view returns to NONE once the Sense Unit is idle (R10). -/
theorem closeView_sound {s : State} (hs : s.ProbingSound) (hidle : s.sense.round = .idle) : (closeView s).ProbingSound :=
  hs.of_round (.of_none rfl) (hs.sense.of_round (by simp [hidle, senseRoundSound]) (by simp) rfl)

/-- The close, the scheduler's before or after the results (R10, R57). -/
theorem closeRound_sound {s : State} (hs : s.ProbingSound) (hp : s.round.phase = .settle) :
    (closeRound s).ProbingSound := by
  have hl := hs.round.live_of_phase (by simp [hp])
  obtain ⟨a, ha, h⟩ := eitherOrder_cases deliverResults schedClose s
  have handed : a.ProbingSound ∧ a.sense.round = .idle := by
    rcases ha with rfl | rfl
    · obtain ⟨hsound, hidle⟩ := deliverResults_sound hs
      have kept : ProbingKept (deliverResults s) (schedClose (deliverResults s)) :=
        schedClose_probingKept ((State.live_congr (by simp)).trans hl)
      exact ⟨kept.sound hsound, by rw [kept.sense]; exact hidle⟩
    · exact deliverResults_sound ((schedClose_probingKept hl).sound hs)
  obtain ⟨hsound, hidle⟩ := handed
  unfold closeRound
  rcases h with h | h <;> rw [h]
  · exact closeView_sound hsound hidle
  · exact closeView_sound (((ProbingKept.refl a).free _).sound hsound) hidle

/-! ### Start-up (R195) -/

/-- The Sense Unit and the scheduler at their reset values, before listen-only (R30, R44). -/
theorem reset_senseSound : State.reset.SenseSound :=
  ⟨trivial, by simp [State.reset], by simp [State.reset], by decide, by decide⟩

theorem reset_schedulerSound : State.reset.SchedulerSound := by
  unfold State.SchedulerSound
  decide

/-- Every block of a round at its reset values is sound, whatever the station. -/
theorem afterReset_sound (s : State) : (afterReset s).ProbingSound :=
  ⟨.of_none rfl, reset_senseSound.of_round trivial (by simp [afterReset]) rfl, reset_schedulerSound.congr rfl rfl,
    lfsrSeed_ne_zero s.station⟩

theorem releaseReset_probingKept (pins : Straps) {s : State} (hp : s.phase = .held) :
    ProbingKept s (releaseReset pins s) := by
  have hl : (releaseReset pins s).live = s.live := by
    unfold State.live; rw [hp]; rfl
  exact ⟨hl, rfl, rfl, rfl, fun hs => hs.congr rfl hl, id⟩

theorem restoreLink_probingKept (s : State) (link : Station × Half) : ProbingKept s (restoreLink s link) := by
  unfold restoreLink
  dsimp only
  split
  · exact .refl s
  · split
    · exact .of_views
    · exact .refl s

theorem restoreRecord_probingKept (s : State) : ProbingKept s (restoreRecord s) := by
  unfold restoreRecord
  dsimp only
  split
  · exact ProbingKept.trans .of_views (ProbingKept.foldl restoreLink_probingKept _ _)
  · exact .refl s

theorem readPages_probingKept {s : State} (hp : s.phase = .oscillatorWait) : ProbingKept s (readPages s) := by
  refine ProbingKept.trans ?_ (restoreRecord_probingKept _)
  have hl : s.live = false := by unfold State.live; rw [hp]; rfl
  exact ⟨hl.symm, rfl, rfl, rfl, fun hs => hs.congr rfl hl.symm, fun _ => lfsrSeed_ne_zero s.station⟩

/-- Listen-only starts: the part is live, with the first probe timer, and asks for its first burst (R45, R144). -/
theorem startListening_sound {s : State} (hs : s.ProbingSound) (hp : s.phase = .restored) :
    (startListening s).ProbingSound := by
  have hl : s.live = false := by unfold State.live; rw [hp]; rfl
  obtain ⟨hlen, hplaces, hnodup, hrec, hnone, hne, hown, hguard, -⟩ := hs.round
  obtain ⟨hsense, hburst, hself, hone, -⟩ := hs.sense
  obtain ⟨-, -, hdeadline, hwait, hretry, hrest⟩ := hs.scheduler
  refine requestBurst_sound ⟨?_, ?_, ?_, lfsrNext_ne_zero hs.generator⟩ rfl
  · exact ⟨hlen, hplaces, hnodup, hrec, hnone, hne, hown, hguard, fun h => by cases h⟩
  · exact ⟨hsense, hburst, hself, hone, fun h => by cases h⟩
  · exact ⟨by simp, by simpa using ⟨hrest hl, rfl⟩, hdeadline, hwait, hretry, fun h => by cases h⟩

theorem release_probingKept {s : State} (hp : s.phase = .listenOnly) : ProbingKept s (release s) := by
  refine ProbingKept.trans ?_ (firstDerivation_probingKept _)
  have hl : s.live = true := by unfold State.live; rw [hp]; rfl
  exact ⟨hl.symm, rfl, rfl, rfl, fun hs => hs.congr rfl hl.symm, id⟩

/-! ### One crystal cycle -/

/-- A timer that counts a tick runs on as it ran. -/
theorem Timer.tick_isSome (t : Timer) : t.tick.isSome = t.isSome := by
  cases t <;> rfl

/-- A free-running tick leaves every timer of the scheduler running or stopped. -/
theorem freeTick_probingKept (s : State) : ProbingKept s (freeTick s) := by
  unfold freeTick
  dsimp only
  split
  · refine ⟨rfl, rfl, rfl, rfl, fun hs => ?_, id⟩
    unfold State.SchedulerSound at *
    simp only [Timer.tick_isSome]
    exact hs
  · exact .of_views

/-- The mark of GUARD_START is not the clock's. -/
@[simp] theorem SlotTimer.cycle_guardPassed (t : SlotTimer) : t.cycle.guardPassed = t.guardPassed := by
  unfold SlotTimer.cycle
  split_ifs <;> rfl

/-- A slot timer below slot 12 reaches at most the start of slot 12 in one cycle. -/
theorem SlotTimer.cycle_at_guard (t : SlotTimer) (h : t.slot < 12) :
    t.cycle.slot < 12 ∨ (t.cycle.slot = 12 ∧ t.cycle.tick = 0 ∧ t.cycle.prescaler = 0) := by
  unfold SlotTimer.cycle
  split_ifs
  · exact .inl h
  · exact .inl h
  · exact .inl h
  · simp only [and_true]
    omega

/-- GUARD_START is due from slot 12 on until it is taken, so that no time passes there (R20). -/
theorem guardStart_mem_due {s : State} (hr : s.stageRuns = true) (hp : s.round.phase = .opening)
    (hslot : 12 ≤ s.round.timer.slot) (hg : s.round.timer.guardPassed = false) : .guardStart ∈ s.due := by
  unfold State.due
  rw [if_pos hr, List.mem_filter]
  refine ⟨?_, by simp [makesFadeStep]⟩
  have hmem : .guardStart ∈ s.dueSlots := by
    unfold State.dueSlots
    simp [hp, hslot, hg, dueIf]
  simp [hmem]

/-- A cycle of the crystal passes where nothing is due. -/
theorem crystalCycle_sound {s : State} (hs : s.ProbingSound) (hr : s.stageRuns = true) (hdue : s.due = []) :
    (crystalCycle s).ProbingSound := by
  have counted : (s.withRound { s.round with timer := s.round.timer.cycle }).ProbingSound := by
    refine hs.of_round ?_ (hs.sense.of_round (senseRoundSound_congr hs.sense.round rfl rfl) (by simp) rfl)
    by_cases hp : s.round.phase = .none
    · obtain ⟨-, -, -, -, hnone, -⟩ := hs.round
      obtain ⟨hprobers, hown, hdis, htimer, hover⟩ := hnone hp
      refine .of_none ?_
      simp [hprobers, hown, hdis, htimer, hover, hp, State.reset, SlotTimer.stopped, SlotTimer.cycle]
    · refine hs.round.goes_on hp hp (by simp) fun hopen hg => SlotTimer.cycle_at_guard _ ?_
      by_contra hslot
      have hmem := guardStart_mem_due hr hopen (Nat.le_of_not_lt hslot) (by simpa using hg)
      simp [hdue] at hmem
  unfold crystalCycle
  dsimp only
  split
  · exact ProbingKept.sound .of_views counted
  · exact (ProbingKept.trans .of_views (freeTick_probingKept _)).sound counted

/-! ### Commands that keep the blocks of a round -/

theorem withLight_probingKept (s : State) (x : Lighting) : ProbingKept s (s.withLight x) := .of_views

theorem endWindow_probingKept (s : State) : ProbingKept s (endWindow s) := by
  unfold endWindow
  split
  · have present := localPresence_probingKept (s.withLight { s.light with held := true })
    exact (ProbingKept.trans .of_views present).trans (withLight_probingKept _ _)
  · exact withLight_probingKept s _

theorem takeSample_probingKept (isActive : Bool) (s : State) : ProbingKept s (takeSample isActive s) := by
  unfold takeSample
  generalize (if isActive then s.light.activeCount + 1 else s.light.activeCount) = active
  dsimp only
  split
  · exact (withLight_probingKept s _).trans (endWindow_probingKept _)
  · exact withLight_probingKept s _

theorem takePulseSample_probingKept (pinHigh : Bool) (s : State) : ProbingKept s (takePulseSample pinHigh s) := by
  rcases takePulseSample_cases pinHigh s with ⟨-, -, -, h⟩ | ⟨-, h⟩ <;> rw [h]
  · exact ProbingKept.trans .of_views (localPresence_probingKept _)
  · exact .of_views

/-- The pages change, but for the identity page. -/
theorem ProbingKept.of_memory {s : State} {z : ZoneMemory} (h : ∀ a, a < 32 → z.nv.read a = s.memory.nv.read a) :
    ProbingKept s (s.withMemory z) := by
  have hstation : z.nv.stationId = s.memory.nv.stationId := by
    simp only [Memory.stationId, h 0 (by omega), h 1 (by omega), h 2 (by omega)]
  exact ⟨rfl, rfl, rfl, hstation, id, id⟩

/-- A command answers a state in which the blocks of a round are sound. -/
def AnswersProbing (r : Result) : Prop := ∃ t, r = .next t ∧ t.ProbingSound

theorem State.ProbingSound.answers {t : State} (h : t.ProbingSound) : AnswersProbing (.next t) := ⟨t, rfl, h⟩

theorem State.ProbingSound.answersKept {s t : State} (hs : s.ProbingSound) (h : ProbingKept s t) :
    AnswersProbing (.next t) := (h.sound hs).answers

/-- A command that its state does not fit leaves the blocks of a round sound. -/
theorem State.ProbingSound.answersIf {p : Prop} [Decidable p] {s t : State} (hs : s.ProbingSound)
    (h : p → t.ProbingSound) : AnswersProbing (.next (if p then t else s)) := by
  split
  · rename_i hp; exact (h hp).answers
  · exact hs.answers

/-- So does an expiry whose effect keeps them. -/
theorem State.ProbingSound.answersExpiry {s : State} (hs : s.ProbingSound) {timer : Timer} {effect : State → State}
    (h : timer.isSome = true → ProbingKept s (effect s)) : AnswersProbing (.next (onExpiry timer effect s)) :=
  hs.answersKept (onExpiry_probingKept h)

theorem State.Sound.probing {s : State} (h : s.Sound) : s.ProbingSound := ⟨h.round, h.sense, h.scheduler, h.generator⟩

/-- A scheduler not in RESTING is that of a part that is live (R44). -/
theorem State.SchedulerSound.live_of_state {s : State} (h : s.SchedulerSound) (hp : s.sched.state ≠ .resting) :
    s.live = true := by
  obtain ⟨-, -, -, -, -, hlive⟩ := h
  by_contra hl
  exact hp (hlive (by simpa using hl))

/-- The probe timer runs in a part that is live (R45). -/
theorem State.SchedulerSound.live_of_probe {s : State} (h : s.SchedulerSound) (hp : s.sched.probe.isSome = true) :
    s.live = true := by
  obtain ⟨-, hprobe, -⟩ := h
  exact (hprobe.mp hp).2

/-- A request waits only in a part that is live (R180). -/
theorem State.LineSound.live_of_queue {s : State} (h : s.LineSound) (hq : s.line.queue ≠ []) : s.live = true := by
  obtain ⟨-, -, -, -, -, -, -, -, -, hlive, -⟩ := h
  by_contra hl
  exact hq (hlive (by simpa using hl))

/-- A notice being sent has passed the judgement every station makes of it (R164, R174). -/
theorem State.LineSound.inRange_of_sending {s : State} (h : s.LineSound) {e a units : Nat} {n : Notice}
    (hc : s.line.contention = .fixed e a (.sending n units)) : Notice.InRange n := by
  obtain ⟨-, -, -, -, -, hcontention, -⟩ := h
  rw [hc] at hcontention
  obtain ⟨-, -, -, -, hjudge⟩ := hcontention
  exact judgeNotice_passes hjudge

/-- The sample timer runs in a part that is live (R144). -/
theorem State.ClimateSound.live_of_sampleTimer {s : State} (h : s.ClimateSound)
    (ht : s.climate.sampleTimer.isSome = true) : s.live = true := by
  obtain ⟨-, -, -, -, -, -, -, -, -, -, -, hlive⟩ := h
  by_contra hl
  simp [hlive (by simpa using hl)] at ht

/-! ### The commands -/

theorem execOccupancySample_answers {s : State} (hs : s.ProbingSound) (pinHigh : Bool) :
    AnswersProbing (execOccupancySample pinHigh s) := by
  refine hs.answersKept ?_
  split
  · split
    · exact (withLight_probingKept s _).trans (takeSample_probingKept _ _)
    · exact (withLight_probingKept s _).trans (takeSample_probingKept _ _)
    · exact takePulseSample_probingKept _ _
    · exact .of_views
  · exact .of_views

theorem execFadeTick_answers {s : State} (hs : s.ProbingSound) : AnswersProbing (execFadeTick s) := by
  refine hs.answersExpiry fun _ => .of_views ?_
  dsimp only
  split <;> simp

theorem execWarmthTimerExpiry_answers {s : State} (hs : s.ProbingSound) : AnswersProbing (execWarmthTimerExpiry s) := by
  refine hs.answersExpiry fun _ => ?_
  dsimp only
  split
  · exact ProbingKept.trans .of_views (offer_probingKept _ _)
  · exact .of_views

theorem execSaveCompletion_answers {s : State} (hs : s.ProbingSound) : AnswersProbing (execSaveCompletion s) := by
  refine hs.answersKept ?_
  split
  · exact .of_memory fun a ha => Memory.read_writeRecord_page0 _ _ a ha
  · exact .refl s

theorem execClearCompletion_answers {s : State} (hs : s.ProbingSound) : AnswersProbing (execClearCompletion s) := by
  refine hs.answersKept ?_
  split
  · have cleared : ProbingKept s (s.withMemory { s.memory with nv := s.memory.nv.clearRecord, engine := .idle }) :=
      .of_memory fun a ha => Memory.read_clearRecord_page0 s.memory.nv a ha
    exact cleared.trans .of_views
  · exact .refl s

theorem execLineWin_answers {s : State} (hs : s.ProbingSound) : AnswersProbing (execLineWin s) := by
  refine hs.answersKept ?_
  split
  · exact winLine_probingKept _ _ _ s
  · exact .refl s

theorem execLoss_answers {s : State} (hs : s.ProbingSound) : AnswersProbing (execLoss s) := by
  refine hs.answersKept ?_
  split
  · exact loseAttempt_probingKept _ _ _ s
  · exact .refl s

theorem execNoticeCompletion_answers {s : State} (hs : s.Sound) : AnswersProbing (execNoticeCompletion s) := by
  refine State.ProbingSound.answers ?_
  split
  · rename_i hc hq
    exact completeNotice_sound hs.probing (hs.line.live_of_queue (by simp [hq])) (hs.line.inRange_of_sending hc) _
  · exact hs.probing

theorem execSampleTimerExpiry_answers {s : State} (hs : s.Sound) : AnswersProbing (execSampleTimerExpiry s) := by
  refine State.ProbingSound.answers ?_
  rcases onExpiry_cases s.climate.sampleTimer _ s with ⟨hrun, h⟩ | ⟨-, h⟩ <;> rw [h]
  · exact requestBurst_sound (ProbingKept.sound .of_views hs.probing) (hs.climate.live_of_sampleTimer hrun)
  · exact hs.probing

theorem execTemperatureConversionEnd_answers {s : State} (hs : s.ProbingSound) (code : AdcCode) :
    AnswersProbing (execTemperatureConversionEnd code s) := by
  refine State.ProbingSound.answers ?_
  split
  · rename_i b hb
    have hl : s.live = true := by
      obtain ⟨-, -, -, -, hlive⟩ := hs.sense
      by_contra hl
      simp [hlive (by simpa using hl)] at hb
    split
    · exact endTemperature_sound hs hl b code
    · exact hs
  · exact hs

/-- Every command, from a sound state, answers a state in which the blocks of a round are sound. -/
theorem exec_answersProbing {s : State} (hs : s.Sound) (c : Instr) : AnswersProbing (exec c s) := by
  have hp := hs.probing
  cases c with
  | reset => exact (afterReset_sound s).answers
  | resetRelease pins => exact hp.answersKept (ite_probingKept fun h => releaseReset_probingKept pins h)
  | oscillatorWaitEnd => exact hp.answersKept (ite_probingKept fun h => readPages_probingKept h)
  | startOfListenOnly => exact hp.answersIf fun h => startListening_sound hp h
  | endOfListenOnly => exact hp.answersKept (ite_probingKept fun h => release_probingKept h)
  | call | join | tally | stir | survey | claim | presence | warmth | ask | answer | set | forget =>
    exact (receive_sound hp _).answers
  | discardedNotice raw => exact (receiveBytes_sound hp raw).answers
  | guardStart => exact hp.answersIf fun h => passGuard_sound hp h.1
  | startOfChips => exact hp.answersIf fun h => beginChips_sound hp h
  | chipSignal chip => exact hp.answersIf fun h => signalChip_sound hp h _
  | chipSample => exact hp.answersIf fun h => startLight_sound hp h
  | lightConversionEnd code => exact hp.answersIf fun _ => endLight_sound hp code
  | startOfSettle => exact hp.answersIf fun h => beginSettle_sound hp h
  | roundClose => exact hp.answersIf fun h => closeRound_sound hp h
  | sampleTimerExpiry => exact execSampleTimerExpiry_answers hs
  | temperatureConversionEnd code => exact execTemperatureConversionEnd_answers hp code
  | probeTimerExpiry =>
    exact hp.answersKept (ite_probingKept fun _ => onExpiry_probingKept fun h =>
      becomeWanting_probingKept (hp.scheduler.live_of_probe h))
  | retryDelayExpiry =>
    exact hp.answersKept (ite_probingKept fun h => onExpiry_probingKept fun _ => retryDelay_probingKept h.1)
  | wantDeadlineExpiry =>
    exact hp.answersKept (ite_probingKept fun h => onExpiry_probingKept fun _ =>
      giveUpTurn_probingKept (hp.scheduler.live_of_state (by simp [h])))
  | briskTimerExpiry => exact hp.answersExpiry fun _ => briskEnd_probingKept s
  | headFixing => exact hp.answersKept (ite_probingKept fun _ => ProbingKept.trans .of_views (fixHead_probingKept _))
  | lineWin => exact execLineWin_answers hp
  | loss => exact execLoss_answers hp
  | noticeCompletion => exact execNoticeCompletion_answers hs
  | backoffResume =>
    exact hp.answersKept (ite_probingKept fun _ => ProbingKept.trans .of_views (resumeBackoff_probingKept _))
  | lineStartBit | framerFirstIdle | pwmReload | compareMatch => exact hp.answersKept (ite_probingKept fun _ => .of_views)
  | agingMinute =>
    exact hp.answersExpiry fun _ => ProbingKept.trans .of_views (ageTable_probingKept _)
  | ageSecond => exact hp.answersExpiry fun _ => ageRoots_probingKept s
  | generationTimerExpiry =>
    exact hp.answersExpiry fun _ => ProbingKept.trans .of_views (derive_probingKept _)
  | claimSpacingExpiry =>
    exact hp.answersExpiry fun _ => ProbingKept.trans .of_views (announcementCheck_probingKept _)
  | settleTimerExpiry =>
    exact hp.answersExpiry fun _ => ProbingKept.trans .of_views (zoneChange_probingKept _ _ _)
  | stirSpacingExpiry | startUpHoldEnd | lockoutExpiry | presenceSpacingExpiry | rosterSecond | restTimerExpiry
  | linkHoldOffExpiry => exact hp.answersExpiry fun _ => .of_views
  | occupancySample pinHigh => exact execOccupancySample_answers hp pinHigh
  | risingEdge =>
    exact hp.answersKept (ite_probingKept fun _ => (takePulseSample_probingKept false s).trans
      (takePulseSample_probingKept true _))
  | holdTimerExpiry | graceTimerExpiry | controlStep =>
    exact hp.answersKept (ite_probingKept fun _ => onExpiry_probingKept fun _ => .of_views)
  | fadeTick => exact execFadeTick_answers hp
  | readingHoldExpiry =>
    exact hp.answersExpiry fun _ => ProbingKept.trans .of_views (withdraw_probingKept _ _)
  | warmthTimerExpiry => exact execWarmthTimerExpiry_answers hp
  | saveCompletion => exact execSaveCompletion_answers hp
  | clearCompletion => exact execClearCompletion_answers hp

/-- A sound state stays sound where the waiting commands or the numbering of the free values alone change. -/
theorem State.Sound.withQueue {s : State} (h : s.Sound) (waiting : List Instr) (n : Nat) :
    State.Sound { s with pending := waiting, free := n } :=
  ⟨h.identity, h.generator, h.memory, h.round, h.sense, h.scheduler, h.table, h.election, h.zone, h.light, h.climate,
    h.line⟩

/-- Every step, from a sound state, answers a state in which the blocks of a round are sound. -/
theorem step_answersProbing {s : State} (hs : s.Sound) : AnswersProbing (step s) := by
  unfold step stepQueue
  split
  · rename_i c rest _
    exact exec_answersProbing (hs.withQueue rest s.free) c
  · rcases idleStep_cases s with ⟨-, h⟩ | ⟨hr, hdue, h⟩ | ⟨c, -, -, h | h⟩ <;> rw [h]
    · exact hs.probing.answers
    · exact (crystalCycle_sound hs.probing hr hdue).answers
    · exact exec_answersProbing hs c
    · exact exec_answersProbing (hs.withQueue s.pending (s.free + 1)) c

/-- Settles O55: every command and every cycle of the crystal keeps the blocks of a round sound. -/
theorem everyStepKeepsTheRoundViewAndTheSenseUnit : Obligations.EveryStepKeepsTheRoundViewAndTheSenseUnit := by
  intro s t hs hstep
  obtain ⟨u, hu, hsound⟩ := step_answersProbing hs
  obtain rfl : u = t := by simpa [hu] using hstep
  exact ⟨hsound.round, hsound.sense, hsound.scheduler, hsound.generator⟩

end Sys2Proof.Machine

/-! SUPPORT. Notices taken where the framer hears them, and what a CALL and a JOIN make of the round view (R11 to R17, R31). -/

namespace Sys2Proof.Machine

-- One thread, as above: a thread per theorem exceeds the memory limit of the check.
set_option Elab.async false

/-! ### Notices taken (R163, R166) -/

/-- While this node does not send, the end of a notice leaves the line idle for 3 byte times. -/
theorem lineIdleThree_of_silent {s : State} (h : s.line.sendingRequest = none) : lineIdleThree s = s.atNoticeEnd := by
  simp [lineIdleThree, State.atNoticeEnd, h]

theorem receive_of_hears {s : State} (h : s.hears) (n : Notice) :
    receive n s = applyVerdict (judgeNotice n) s.atNoticeEnd := by
  obtain ⟨hframing, hsilent⟩ := h
  simp [receive, hframing, lineIdleThree_of_silent hsilent]

theorem receive_of_not_framing {s : State} (h : s.framing = false) (n : Notice) : receive n s = s := by
  simp [receive, h]

/-- A notice that fits a frame and is in range passes the judgement as it is. -/
theorem judgeNotice_of_inRange {n : Notice} (hfits : n.body.fits = true) (hn : Notice.InRange n) :
    judgeNotice n = .passes n := by
  obtain ⟨hsender, hbody⟩ := hn
  have hlen : (bodyBytes n.body).length ≤ 40 := by simpa [Body.fits] using hfits
  simpa [judgeNotice, judgeFields, Nat.not_lt.mpr hlen, hbody] using hsender

/-- A notice in range is heard: it is delivered at its end. -/
theorem receive_of_inRange {s : State} (h : s.hears) {n : Notice} (hfits : n.body.fits = true)
    (hn : Notice.InRange n) : receive n s = deliver n s.atNoticeEnd := by
  rw [receive_of_hears h, judgeNotice_of_inRange hfits hn]
  rfl

theorem depthByte_iff (d : Byte) : depthByte d = true ↔ depthAllowed d.toNat := by simp [depthByte]

/-- A node's ID is that of no tool, and not 0. -/
theorem isNode_iff (i : Station) : isNode i = true ↔ i ≠ 0 ∧ isTool i = false := by simp [isNode]

/-! ### The scheduler is told (R53) -/

/-- A listed scheduler is PROBING, its timers stopped. -/
theorem schedListed_eq (s : State) :
    schedListed s = { s with
      sched := if s.sched.state = .probing then s.sched
        else { s.sched with state := .probing, probe := none, wait := none, deadline := none, retry := none } } := by
  rcases schedListed_cases s with ⟨hp, h⟩ | ⟨hp, h⟩ <;> rw [h]
  · rw [if_pos hp]
  · rw [if_neg hp]; rfl

/-! ### CALL and JOIN (R11 to R17) -/

/-- The view is marked, and the change from clear counted (R12, R15, R17). -/
theorem markDisordered_eq (s : State) :
    markDisordered s = { s with
      round := { s.round with disordered := true }
      line := { s.line with
        counters := if s.round.disordered then s.line.counters
          else { s.line.counters with disorderedRounds := bump s.line.counters.disorderedRounds } } } := by
  rcases markDisordered_cases s with ⟨hd, h⟩ | ⟨hd, h⟩ <;> rw [h]
  · have hround : { s.round with disordered := true } = s.round := by rw [← hd]
    rw [if_pos hd, hround]
  · rw [if_neg (by simp [hd])]; rfl

/-- A round in SAMPLING is abandoned, and no other state of the Sense Unit is touched (R31). -/
theorem abandonRound_eq (s : State) :
    abandonRound s = { s with
      sense := match s.sense.round with
        | .sampling _ => { s.sense with round := .idle }
        | _ => s.sense } := by
  unfold abandonRound
  cases s.sense.round <;> rfl

/-- A CALL in NONE opens a round, whose first prober is its sender (R11). -/
theorem takeCall_none {s : State} (hp : s.round.phase = .none) (sender : Station) (depth : Nat) :
    takeCall sender depth s = { s with
      round := { s.round with
        phase := .opening, probers := [⟨sender, depth, 1⟩], own := if sender = s.station then some 1 else none,
        disordered := false, timer := ⟨true, 0, 0, 0, false, 0, 0⟩ }
      sched := if sender = s.station ∧ s.sched.state ≠ .probing then
          { s.sched with state := .probing, probe := none, wait := none, deadline := none, retry := none }
        else s.sched } := by
  unfold takeCall
  rw [hp]
  by_cases hmine : sender = s.station
  · by_cases hprobing : s.sched.state = .probing <;> simp [hmine, hprobing, schedListed_eq] <;> rfl
  · simp [hmine]; rfl

/-- In OPENING it disorders the view (R12). -/
theorem takeCall_opening {s : State} (hp : s.round.phase = .opening) (sender : Station) (depth : Nat) :
    takeCall sender depth s = markDisordered s := by simp [takeCall, hp]

/-- In CHIPS it does so as well, and the Sense Unit abandons the round (R12, R31). -/
theorem takeCall_chips {s : State} (hp : s.round.phase = .chips) (sender : Station) (depth : Nat) :
    takeCall sender depth s = abandonRound (markDisordered s) := by simp [takeCall, hp]

theorem takeCall_settle {s : State} (hp : s.round.phase = .settle) (sender : Station) (depth : Nat) :
    takeCall sender depth s = s := by simp [takeCall, hp]

/-- A JOIN at the next position of a sender not yet listed is appended (R14). -/
theorem takeJoin_appends {s : State} (hp : s.round.phase = .opening) {sender : Station} {position : Nat}
    (hnext : position = s.round.probers.length + 1 ∧ ∀ r ∈ s.round.probers, r.station ≠ sender) (depth : Nat) :
    takeJoin sender depth position s = { s with
      round := { s.round with
        probers := s.round.probers ++ [⟨sender, depth, position⟩]
        own := if sender = s.station then some position else s.round.own }
      sched := if sender = s.station ∧ s.sched.state ≠ .probing then
          { s.sched with state := .probing, probe := none, wait := none, deadline := none, retry := none }
        else s.sched } := by
  unfold takeJoin
  simp only [hp]
  rw [if_pos (by simpa using hnext)]
  by_cases hmine : sender = s.station
  · by_cases hprobing : s.sched.state = .probing <;> simp [hmine, hprobing, schedListed_eq, State.withRound]
  · simp [hmine]; rfl

/-- Any other JOIN in OPENING disorders the view (R15). -/
theorem takeJoin_disorders {s : State} (hp : s.round.phase = .opening) {sender : Station} {position : Nat}
    (hnext : ¬ (position = s.round.probers.length + 1 ∧ ∀ r ∈ s.round.probers, r.station ≠ sender)) (depth : Nat) :
    takeJoin sender depth position s = markDisordered s := by
  unfold takeJoin
  simp only [hp]
  rw [if_neg (by simpa using hnext)]

/-- Outside OPENING a JOIN is ignored (R16). -/
theorem takeJoin_ignored {s : State} (hp : s.round.phase ≠ .opening) (sender : Station) (depth position : Nat) :
    takeJoin sender depth position s = s := by
  unfold takeJoin
  cases h : s.round.phase with
  | opening => exact absurd h hp
  | none | chips | settle => rfl

/-! ### The commands -/

/-- A CALL of a node at an allowed depth, where it is heard (R11). -/
theorem exec_call_heard {s : State} (h : s.hears) {sender : Station} {depth : Byte} (hd : depthAllowed depth.toNat)
    (hn : isNode sender = true) : exec (.call sender depth) s = .next (takeCall sender depth.toNat s.atNoticeEnd) := by
  obtain ⟨h0, ht⟩ := (isNode_iff sender).mp hn
  have hpass := receive_of_inRange h (n := ⟨sender, .call depth⟩) rfl
    ⟨h0, by simp [bodyInRange, (depthByte_iff depth).mpr hd, ht]⟩
  exact congrArg _ hpass

/-- A JOIN of a node at an allowed depth and position, where it is heard (R14). -/
theorem exec_join_heard {s : State} (h : s.hears) {sender : Station} {depth position : Byte}
    (hd : depthAllowed depth.toNat) (hlow : 2 ≤ position.toNat) (hhigh : position.toNat ≤ 6) (hn : isNode sender = true) :
    exec (.join sender depth position) s =
      .next (takeJoin sender depth.toNat position.toNat s.atNoticeEnd) := by
  obtain ⟨h0, ht⟩ := (isNode_iff sender).mp hn
  have hpass := receive_of_inRange h (n := ⟨sender, .join depth position⟩) rfl
    ⟨h0, by simp [bodyInRange, (depthByte_iff depth).mpr hd, ht, hlow, hhigh]⟩
  exact congrArg _ hpass

/-- Settles O10, by the phase of the view. -/
theorem callOpensDisordersOrIsIgnored : Obligations.CallOpensDisordersOrIsIgnored := by
  intro sender depth s h hd hn
  rw [exec_call_heard h hd hn]
  refine ⟨fun hp => ?_, fun hp => ?_, fun hp => ?_⟩
  · rw [takeCall_none (s := s.atNoticeEnd) hp]; rfl
  · rcases hp with hp | hp
    · rw [takeCall_opening (s := s.atNoticeEnd) hp, markDisordered_eq, hp]; rfl
    · rw [takeCall_chips (s := s.atNoticeEnd) hp, markDisordered_eq, abandonRound_eq, hp]
      cases hr : s.sense.round <;> simp [State.atNoticeEnd, hr] <;> rfl
  · rw [takeCall_settle (s := s.atNoticeEnd) hp]

/-- Settles O11, by the phase of the view and the position stated. -/
theorem joinAppendsDisordersOrIsIgnored : Obligations.JoinAppendsDisordersOrIsIgnored := by
  intro sender depth position s h hd hlow hhigh hn
  rw [exec_join_heard h hd hlow hhigh hn]
  refine ⟨fun hp => ?_, fun hp => ?_⟩
  · split
    · rename_i hnext
      rw [takeJoin_appends (s := s.atNoticeEnd) hp hnext]; rfl
    · rename_i hnext
      rw [takeJoin_disorders (s := s.atNoticeEnd) hp hnext, markDisordered_eq]; rfl
  · rw [takeJoin_ignored (s := s.atNoticeEnd) hp]

end Sys2Proof.Machine

/-! SUPPORT. The start of CHIPS, the chips and SETTLE (R7 to R9, R24, R25, R35 to R39), and the reset state. -/

namespace Sys2Proof.Machine

-- One thread, as above: a thread per theorem exceeds the memory limit of the check.
set_option Elab.async false

/-! ### CHIPS (R7, R24, R25) -/

/-- The Sense Unit at the start of CHIPS: it samples an ordered view (R7, R30). -/
theorem startSense_of_idle {s : State} (h : s.sense.round = .idle) :
    startSense s = { s with
      sense := if s.round.disordered then s.sense
        else { s.sense with
          round := .sampling ⟨s.round.probers, s.round.own, 0, [], [], [0, 0, 0, 0, 0, 0], 0, false⟩ } } := by
  unfold startSense
  rw [h]
  cases s.round.disordered <;> rfl

/-- The chip levels lie a depth apart, at or below the base where the depth allows (R24). -/
theorem chipLevels_eq (base depth : Nat) :
    chipLevels base depth = if depth ≤ base then ⟨base, base, base - depth⟩ else ⟨base, base + depth, base⟩ := rfl

/-- The override loads the compare of the own code's level (R25). -/
theorem loadChip_eq (j : Nat) (s : State) :
    loadChip j s = { s with
      light := match s.round.override, s.round.own with
        | some levels, some position =>
          { s.light with
            buffered := s.reload + (if chipRaised (some position) j then levels.high else levels.low) *
              (1024 - s.reload) / 1000 }
        | _, _ => s.light } := by
  unfold loadChip
  cases s.round.override <;> cases s.round.own <;> rfl

/-- Settles O13: the start of CHIPS and the chip signals. -/
theorem chipsFreezeTheBaseAndDriveTheCode : Obligations.ChipsFreezeTheBaseAndDriveTheCode := by
  refine fun s => ⟨fun hp hidle => ?_, fun j hp => ?_⟩
  · simp only [exec, execStartOfChips, hp, if_true, beginChips]
    rw [startSense_of_idle (by exact hidle)]
    cases hown : s.round.own with
    | none => simp [State.withRound, SlotTimer.atSlot]
    | some p => simp [State.withRound, SlotTimer.atSlot, chipLevels_eq, apply_ite]
  · simp only [exec, execChipSignal, hp, if_true, signalChip]
    rw [loadChip_eq]
    rfl

/-! ### SETTLE (R9, R28, R35, R136) -/

/-- A fade step from a level that stands loaded (R135). -/
theorem fadeStep_of_loaded (s : State) :
    fadeStep (loadCompare s.light.output s) = { s with
      light := { s.light with
        output := moveToward s.light.output s.light.target 10 2
        buffered := s.compare (moveToward s.light.output s.light.target 10 2) } } := by
  rcases fadeStep_cases (loadCompare s.light.output s) with ⟨hstill, e⟩ | e <;> rw [e]
  · have hstill : moveToward s.light.output s.light.target 10 2 = s.light.output := hstill
    rw [hstill]
    rfl
  · rfl

/-- A noise of 7 is a null correlation of 224 (R37, R38). -/
theorem judgementOf_noise (clip : Bool) (null : Int) :
    judgementOf clip (noiseOf null) = if clip then .clipped else if 224 ≤ null.natAbs then .noisy else .valid := by
  have hnoise : 7 ≤ noiseOf null ↔ 224 ≤ null.natAbs := by unfold noiseOf; omega
  simp only [judgementOf, hnoise]

/-- The view in SETTLE: the override has ended on the output level, from which the fade makes its step (R9, R28, R136). -/
theorem beginSettle_eq (s : State) :
    beginSettle s = { s with
      round := { s.round with phase := .settle, override := none, timer := s.round.timer.atSlot 32 }
      light := { s.light with
        output := moveToward s.light.output s.light.target 10 2
        buffered := s.compare (moveToward s.light.output s.light.target 10 2) }
      sense := { s.sense with
        burst := s.sense.burst.map (fun b => { b with converting := b.converting || !s.sense.lightConverting })
        round := s.sense.round.compute s.gain } } := by
  simp only [beginSettle, fadeStep_of_loaded]
  rfl

/-- Settles O14, by the round state of the Sense Unit. -/
theorem startOfSettleEndsTheOverrideAndComputes : Obligations.StartOfSettleEndsTheOverrideAndComputes := by
  intro s hp
  simp only [exec, execStartOfSettle, if_pos hp]
  rw [beginSettle_eq]
  cases s.sense.round with
  | sampling d => rw [SenseRound.compute, judgementOf_noise]; rfl
  | idle => rfl
  | ready results judgement => rfl

/-! ### The reset state -/

/-- Settles O53, block by block. -/
theorem resetStateIsSound : Obligations.ResetStateIsSound where
  identity := show isNode State.resetStation = true by decide
  generator := show (0xA310 : BitVec 16) ≠ 0 by decide
  memory := ⟨State.reset_memory_wf, by simp [State.reset], rfl, by simp [State.reset], by simp [State.reset]⟩
  round := .of_none rfl
  sense := reset_senseSound
  scheduler := reset_schedulerSound
  table := by
    have hempty : entriesOf State.reset.table.slots = [] := rfl
    refine ⟨rfl, ?_⟩
    rw [hempty]
    simp [State.reset]
  election := by
    have hempty : entriesOf State.reset.election.roots = [] := rfl
    refine ⟨rfl, ?_⟩
    rw [hempty]
    decide
  zone := by unfold State.ZoneSound; decide
  light := by unfold State.LightSound; decide
  climate := by unfold State.ClimateSound; decide
  line := ⟨by decide, .nil, by simp [State.reset], by simp [State.reset], by simp [State.reset], trivial, by simp [State.reset],
    by simp [State.reset], by simp [State.reset], by simp [State.reset], by simp [State.reset]⟩

end Sys2Proof.Machine

/-! SUPPORT. What a withdrawal leaves of the queue (R179), and the owners that withdraw (R20, R55, R146). -/

namespace Sys2Proof.Machine

-- One thread, as above: a thread per theorem exceeds the memory limit of the check.
set_option Elab.async false

/-! ### The withdrawal (R179) -/

/-- Fixing a head changes the contention state of the line alone. -/
theorem fixHead_line (s : State) : ∃ c, (fixHead s).line = { s.line with contention := c } := by
  rcases fixHead_cases s with h | ⟨-, -, -, h⟩ <;> rw [h]
  · exact ⟨s.line.contention, rfl⟩
  · exact ⟨_, rfl⟩

theorem fixHead_queue (s : State) : (fixHead s).line.queue = s.line.queue := by
  obtain ⟨c, h⟩ := fixHead_line s
  rw [h]

theorem fixHead_counters (s : State) : (fixHead s).line.counters = s.line.counters := by
  obtain ⟨c, h⟩ := fixHead_line s
  rw [h]

/-- No withdrawal counts. -/
theorem withdraw_counters (r : Request) (s : State) : (withdraw r s).line.counters = s.line.counters := by
  rcases withdraw_cases r s with ⟨-, h⟩ | ⟨-, -, -, h⟩ | ⟨-, h⟩ <;> rw [h]
  rw [fixHead_counters]
  rfl

theorem withdraw_of_sending {r : Request} {s : State} (h : s.line.sendingRequest = some r) :
    withdraw r s = { s with line := { s.line with followOn := false } } := by
  rw [withdraw, if_pos (decide_eq_true h)]

/-- A request that is no fixed head is taken out of its place, the others left in order. -/
theorem withdraw_of_pending {r : Request} {s : State} (h : s.line.sendingRequest ≠ some r)
    (hhead : s.line.contention = .unfixed ∨ ∃ q ∈ s.line.queue.head?, q.request ≠ r) :
    withdraw r s =
      { s with line := { s.line with queue := s.line.queue.filter (fun q => decide (q.request ≠ r)) } } := by
  rcases withdraw_cases r s with ⟨hs, -⟩ | ⟨-, hc, ⟨q, hq, hr⟩, -⟩ | ⟨-, e⟩
  · exact absurd hs h
  · rcases hhead with hu | ⟨q', hq', hr'⟩
    · exact absurd hu hc
    · cases Option.mem_unique hq hq'
      exact absurd hr hr'
  · exact e

/-- The fixed head leaves, and the next request is fixed where the line has been idle long enough (R172). -/
theorem withdraw_of_head {r : Request} {s : State} {e a : Nat} {h : HeadState} {q : Queued} {rest : List Queued}
    (hsend : s.line.sendingRequest ≠ some r) (hc : s.line.contention = .fixed e a h) (hq : s.line.queue = q :: rest)
    (hr : q.request = r) :
    withdraw r s =
      fixHead { s with line := { s.line with queue := rest, contention := .unfixed, followOn := false } } := by
  simp [withdraw, hsend, hc, hq, hr, LineInterface.dropHead]

/-- Of a kind held once no second request stands behind the head (R169). -/
theorem filter_behind_head {r : Request} {s : State} (hs : s.LineSound) (hr : heldOnce r = true) {q : Queued}
    {rest : List Queued} (hq : s.line.queue = q :: rest) (hhead : q.request = r) :
    (q :: rest).filter (fun q => decide (q.request ≠ r)) = rest := by
  obtain ⟨-, -, -, honce, -⟩ := hs
  have hkind : r ∈ [Request.callJoin, .claim, .presence, .warmth] := by
    cases r with
    | callJoin | claim | presence | warmth => simp
    | tally | stir | answer => cases hr
  have hle := honce r hkind
  rw [hq, List.countP_cons_of_pos (by simpa using hhead)] at hle
  rw [List.filter_cons_of_neg (by simpa using hhead), List.filter_eq_self]
  simpa using List.countP_eq_zero.mp (by omega : rest.countP (fun q => decide (q.request = r)) = 0)

/-- A withdrawn request is out of the queue. -/
theorem withdraw_queue {r : Request} {s : State} (hs : s.LineSound) (hr : heldOnce r = true)
    (h : s.line.sendingRequest ≠ some r) :
    (withdraw r s).line.queue = s.line.queue.filter (fun q => decide (q.request ≠ r)) := by
  rcases withdraw_cases r s with ⟨hsend, -⟩ | ⟨-, -, ⟨q, hhead, hqr⟩, e⟩ | ⟨-, e⟩
  · exact absurd hsend h
  · obtain ⟨rest, hq⟩ : ∃ rest, s.line.queue = q :: rest := List.head?_eq_some_iff.mp hhead
    rw [e, fixHead_queue, hq, filter_behind_head hs hr hq hqr]
    simp [LineInterface.dropHead, hq]
  · rw [e]

/-! ### The scheduler's answers (R46, R54, R55) -/

/-- "Not admitted" in a round turns a queued request into a wait for its close (R54). -/
theorem schedNotAdmitted_in_round {s : State} (hp : s.round.phase ≠ .none) :
    schedNotAdmitted s = { s with
      sched := if s.sched.state = .wanting ∧ s.sched.wait = some .queued
        then { s.sched with wait := some .closeWait } else s.sched } := by
  unfold schedNotAdmitted
  split
  · rename_i hw hq
    rw [if_pos ⟨hw, hq⟩]
    cases h : s.round.phase with
    | none => exact absurd h hp
    | opening | chips | settle => rfl
  · rename_i h
    rw [if_neg fun ⟨hw, hq⟩ => h hw hq]

/-- RESTING with a probe timer of the mode's interval and jitter (R46). -/
theorem restWithNewProbe_eq (s : State) :
    restWithNewProbe s = { s with
      rng := lfsrNext s.rng
      sched := { s.sched with
        state := .resting, wait := none, deadline := none, retry := none
        probe := some (match s.sched.mode with
          | .normal => seconds 240 + 160 * drawFrom (lfsrNext s.rng) 3000
          | .brisk => seconds 20 + 160 * drawFrom (lfsrNext s.rng) 250) } } := by
  simp only [restWithNewProbe, jitterTicks, Nat.mul_comm 160]
  cases hm : s.sched.mode <;> rfl

/-! ### The owners -/

/-- GUARD_START withdraws a pending CALL/JOIN and tells the scheduler (R20, R54). -/
theorem guardStart_withdraws {s : State} (hp : s.round.phase = .opening) (hg : s.round.timer.guardPassed = false) :
    let marked : State := { s with
      round := { s.round with
        timer := { s.round.timer with slot := 12, tick := 0, prescaler := 0, guardPassed := true } } }
    exec .guardStart s =
      .next
        (if s.line.pendingRequest .callJoin then
          { withdraw .callJoin marked with
            sched := if s.sched.state = .wanting ∧ s.sched.wait = some .queued
              then { s.sched with wait := some .closeWait } else s.sched }
        else marked) := by
  intro marked
  have hpass : passGuard s =
      if s.line.pendingRequest .callJoin then schedNotAdmitted (withdraw .callJoin marked) else marked := rfl
  have hphase : (withdraw .callJoin marked).round.phase ≠ .none := by simp [marked, hp]
  simp only [exec, execGuardStart, hp, hg, Bool.false_eq_true, not_false_eq_true, and_self, if_true, hpass]
  rw [schedNotAdmitted_in_round hphase]
  simp [marked]

/-- WANT_DEADLINE_EXPIRY withdraws a pending CALL/JOIN and gives the turn up (R55). -/
theorem wantDeadlineExpiry_withdraws {s : State} (hw : s.sched.state = .wanting) (hd : s.sched.deadline.isSome = true) :
    let left := if s.sched.wait = some .queued ∧ s.line.pendingRequest .callJoin = true
      then withdraw .callJoin s else s
    exec .wantDeadlineExpiry s =
      .next { left with
        rng := lfsrNext left.rng
        line := { left.line with
          counters := { s.line.counters with missedTurns := bump s.line.counters.missedTurns } }
        sched := { s.sched with
          state := .resting, wait := none, deadline := none, retry := none
          probe := some (match s.sched.mode with
            | .normal => seconds 240 + 160 * drawFrom (lfsrNext left.rng) 3000
            | .brisk => seconds 20 + 160 * drawFrom (lfsrNext left.rng) 250) } } := by
  intro left
  have hleft : left.sched = s.sched ∧ left.line.counters = s.line.counters := by
    simp only [left]
    split
    · exact ⟨by simp, withdraw_counters _ s⟩
    · exact ⟨rfl, rfl⟩
  obtain ⟨hsched, hcounters⟩ := hleft
  have hgive : giveUpTurn s =
      restWithNewProbe (left.count (fun c => { c with missedTurns := bump c.missedTurns })) := by
    simp [giveUpTurn, left]
  simp only [exec, execWantDeadlineExpiry, hw, if_true, onExpiry, hd, hgive]
  rw [restWithNewProbe_eq]
  simp [hsched, hcounters, State.count]

/-- Settles O12, from the rules of a withdrawal. -/
theorem ownersWithdrawTheirPendingRequests : Obligations.OwnersWithdrawTheirPendingRequests := by
  refine ⟨fun r s hs hr => ⟨withdraw_of_sending, fun h => ⟨withdraw_queue hs hr h, withdraw_of_pending h, ?_⟩⟩,
    fun s hp hg => guardStart_withdraws hp hg, fun s hw hd => wantDeadlineExpiry_withdraws hw hd, fun s hh => ?_⟩
  · intro e a head q rest hc hq hqr
    exact withdraw_of_head h hc hq hqr
  · simp only [exec, execReadingHoldExpiry, onExpiry, hh, if_true]
    rfl

end Sys2Proof.Machine

/-! SUPPORT. Line-win: what the head becomes, and the bits this node drives from there on (R19, R162, R174). -/

namespace Sys2Proof.Machine

-- One thread, as above: a thread per theorem exceeds the memory limit of the check.
set_option Elab.async false

/-! ### The decision on a CALL/JOIN (R19, R20) -/

theorem beforeGuard_iff (r : RoundController) :
    r.beforeGuard = true ↔ r.timer.slot < 12 ∨ r.timer.guardPassed = false := by
  simp [RoundController.beforeGuard]

/-- What a CALL/JOIN head sends: a CALL in NONE, a JOIN before the guard of a list with room. -/
theorem callJoinDecision_sent {s : State} {body : Body} (hown : s.round.own = none)
    (h : (s.round.phase = .none ∧ body = .call (BitVec.ofNat 8 s.depth)) ∨
      (s.round.phase = .opening ∧ (s.round.timer.slot < 12 ∨ s.round.timer.guardPassed = false) ∧
        s.round.probers.length < 6 ∧
        body = .join (BitVec.ofNat 8 s.depth) (BitVec.ofNat 8 (s.round.probers.length + 1)))) :
    s.callJoinDecision = .sent body := by
  rcases h with ⟨hp, rfl⟩ | ⟨hp, hguard, hroom, rfl⟩
  · simp [State.callJoinDecision, hown, hp]
  · simp [State.callJoinDecision, hown, hp, (beforeGuard_iff _).mpr hguard, hroom]

/-- A view closed to it withdraws it, and tells the scheduler unless this node is listed. -/
theorem callJoinDecision_withdrawn {s : State} (hp : s.round.phase ≠ .none)
    (h : s.round.own.isSome = true ∨ s.round.phase = .chips ∨ s.round.phase = .settle ∨
      (s.round.phase = .opening ∧
        ((12 ≤ s.round.timer.slot ∧ s.round.timer.guardPassed = true) ∨ 6 ≤ s.round.probers.length))) :
    s.callJoinDecision = .withdrawn s.round.own.isNone := by
  unfold State.callJoinDecision
  cases hown : s.round.own with
  | some p => rfl
  | none =>
    cases hphase : s.round.phase with
    | none => exact absurd hphase hp
    | chips | settle => rfl
    | opening =>
      have hout : ¬ (s.round.beforeGuard ∧ s.round.probers.length < 6) := by
        rw [beforeGuard_iff]
        rintro ⟨hguard, hroom⟩
        rcases h with h | h | h | ⟨-, ⟨hslot, hpassed⟩ | hfull⟩
        · simp [hown] at h
        · simp [hphase] at h
        · simp [hphase] at h
        · rcases hguard with hguard | hguard
          · omega
          · simp [hpassed] at hguard
        · omega
      exact if_neg hout

/-! ### LINE_WIN (R174) -/

theorem exec_lineWin {s : State} {e a units entered : Nat} {r : Request} {rest : List Queued}
    (hc : s.line.contention = .fixed e a (.counting units)) (hq : s.line.queue = ⟨r, entered⟩ :: rest) :
    exec .lineWin s = .next (winLine e a r s) := by
  simp only [exec, execLineWin, hc, hq]

/-- A CALL/JOIN that is withdrawn leaves the queue, and the next head is fixed (R19). -/
theorem winLine_withdrawn {s : State} (e a : Nat) {entered : Nat} {rest : List Queued}
    (hq : s.line.queue = ⟨.callJoin, entered⟩ :: rest) (hp : s.round.phase ≠ .none)
    (hd : s.callJoinDecision = .withdrawn s.round.own.isNone) :
    winLine e a .callJoin s = fixHead { s with
      line := { s.line with queue := rest, contention := .unfixed, followOn := false }
      sched := if s.round.own = none ∧ s.sched.state = .wanting ∧ s.sched.wait = some .queued
        then { s.sched with wait := some .closeWait } else s.sched } := by
  have hdrop : s.line.dropHead = { s.line with queue := rest, contention := .unfixed, followOn := false } := by
    simp [LineInterface.dropHead, hq]
  simp only [winLine, hd, hdrop]
  cases hown : s.round.own with
  | some p => simp [State.withLine]
  | none =>
    simp only [Option.isNone_none, if_true, true_and]
    rw [schedNotAdmitted_in_round (by simpa using hp)]
    rfl

/-! ### The bits driven (R162) -/

/-- A byte carries a bit for a level: dominant for a 0. -/
theorem wireOf_eq (b : Bool) : wireOf b = if b = true then .recessive else .dominant := rfl

/-- Ten bits to a byte: the bit that stands on the line after some time of sending. -/
theorem frameBits_at (n : Notice) (sent : Nat) :
    (frameBits n).getD (sent / bitTime) .recessive =
      match (frameBytes n)[sent / byteTime]? with
      | none => .recessive
      | some byte =>
        let bit := sent % byteTime / (byteTime / 10)
        if bit = 0 then .dominant
        else if bit = 9 then .recessive
        else if byte.getLsbD (bit - 1) = true then .recessive else .dominant := by
  have hbyte : sent / bitTime / 10 = sent / byteTime := by simp only [bitTime, byteTime]; omega
  have hbit : sent / bitTime % 10 = sent % byteTime / (byteTime / 10) := by simp only [bitTime, byteTime]; omega
  rw [List.getD_eq_getElem?_getD, frameBits, bits_get, hbyte, hbit]
  cases (frameBytes n)[sent / byteTime]? with
  | none => rfl
  | some byte =>
    have hlt : sent % byteTime / (byteTime / 10) < 10 := by simp only [byteTime]; omega
    rw [Option.bind_some, byteBits_get byte _ hlt, Option.getD_some]
    simp only [wireOf_eq]

/-- Settles O43: the head by its kind, and the bits by their time. -/
theorem lineWinSendsOrWithdrawsTheHead : Obligations.LineWinSendsOrWithdrawsTheHead := by
  refine ⟨fun s e a units entered r rest hc hq => ⟨fun body hbody => ?_, ?_⟩, fun s e a units n hc => ?_, fun s h => ?_⟩
  · rw [exec_lineWin hc hq]
    cases r with
    | callJoin =>
      obtain ⟨hown, hsent⟩ := hbody
      simp only [winLine, callJoinDecision_sent hown hsent]
      rfl
    | warmth =>
      obtain ⟨t, ht, rfl⟩ := hbody
      simp only [winLine, Option.mem_def.mp ht]
      rfl
    | tally | stir | claim | presence | answer =>
      subst hbody
      rfl
  · rintro rfl hp hout
    rw [exec_lineWin hc hq, winLine_withdrawn e a hq hp (callJoinDecision_withdrawn hp hout)]
  · simp only [State.drives, hc]
    exact frameBits_at n _
  · unfold State.drives
    split
    · rename_i e a n units hc
      exact absurd hc (h e a n units)
    · rfl
    · rfl
    · rfl
    · rfl

end Sys2Proof.Machine

/-! SUPPORT. Sampling: sixteen chips of four conversions, and the codes of R23 (R30, R33 to R35). -/

namespace Sys2Proof.Machine

-- One thread, as above: a thread per theorem exceeds the memory limit of the check.
set_option Elab.async false

/-! ### The chip sums (R33) -/

/-- Every accumulator holds the correlation of the sums taken with its code, where that is assigned (R33, R35). -/
structure Sampling.Correlates (d : Sampling) (sums : List Nat) : Prop where
  taken : d.sums = sums
  place : d.chip = sums.length
  six : d.accs.length = 6
  accumulated : ∀ i, i < 6 → d.accs.getD i 0 = if d.assigned (i + 1) then correlationOf (some (i + 1)) sums else 0
  balance : d.nullAcc = correlationOf none sums

/-- At its start SAMPLING has taken no chip. -/
theorem Sampling.Correlates.start (records : List ProberRecord) (own : Option Nat) :
    (Sampling.start records own).Correlates [] := by
  refine ⟨rfl, rfl, rfl, fun i hi => ?_, rfl⟩
  have hzero : (List.replicate 6 (0 : Int)).getD i 0 = 0 := by
    rw [List.getD_eq_getElem _ _ (by simpa using hi), List.getElem_replicate]
  rw [Sampling.start, hzero]
  split <;> rfl

/-- A chip sum goes with its sign into every assigned accumulator (R33). -/
theorem Sampling.Correlates.addChip {d : Sampling} {sums : List Nat} (h : d.Correlates sums) (sum : Nat) :
    (d.addChip sum).Correlates (sums ++ [sum]) := by
  obtain ⟨hsums, hchip, hwidth, haccs, hnull⟩ := h
  refine ⟨by simp [Sampling.addChip, hsums], by simp [Sampling.addChip, hchip], by simp [Sampling.addChip, hwidth],
    fun i hi => ?_, by simp [Sampling.addChip, hnull, hchip, correlationOf_concat]⟩
  have hassigned : (d.addChip sum).assigned (i + 1) = d.assigned (i + 1) := rfl
  have hacc := haccs i hi
  rw [List.getD_eq_getElem _ _ (by omega)] at hacc
  rw [List.getD_eq_getElem _ _ (by simpa [Sampling.addChip, hwidth] using hi), hassigned]
  simp only [Sampling.addChip, List.getElem_mapIdx, hacc, correlationOf_concat, hchip]
  split <;> rfl

/-- Four conversions of a chip form its sum, with the clip mark of their codes (R33, R34). -/
theorem takeCode_four (d : Sampling) (hcodes : d.codes = []) (hchip : d.chip < 16) (a b c e : AdcCode) :
    [a, b, c, e].foldl Sampling.takeCode d =
      { d.addChip ([a, b, c, e].map BitVec.toNat).sum with
        clip := d.clip || [a, b, c, e].any (fun code => decide (code = 4095)) } := by
  simp [Sampling.takeCode, Sampling.addChip, hcodes, hchip, Bool.or_assoc]
  rfl

/-- The sum of the j-th four of some codes. -/
def chipSum (codes : List AdcCode) (j : Nat) : Nat := (((codes.drop (4 * j)).take 4).map BitVec.toNat).sum

/-- The sums of so many chips: the codes four by four. -/
def chipSums (codes : List AdcCode) (chips : Nat) : List Nat := (List.range chips).map (chipSum codes)

/-- What four conversions of each chip make of SAMPLING between two chips. -/
structure Sampling.Took (d : Sampling) (records : List ProberRecord) (codes : List AdcCode) (chips : Nat) : Prop where
  list : d.records = records
  between : d.codes = []
  correlates : d.Correlates (chipSums codes chips)
  mark : d.clip = codes.any (fun code => decide (code = 4095))

/-- Codes beyond those of the first chips leave their sums. -/
theorem chipSums_append {codes : List AdcCode} {chips : Nat} (h : codes.length = 4 * chips) (last : List AdcCode)
    (hlast : last.length = 4) : chipSums (codes ++ last) (chips + 1) = chipSums codes chips ++ [(last.map BitVec.toNat).sum] := by
  have hbefore : ∀ j ∈ List.range chips, chipSum (codes ++ last) j = chipSum codes j := by
    intro j hj
    have hj := List.mem_range.mp hj
    unfold chipSum
    rw [List.drop_append_of_le_length (by omega), List.take_append_of_le_length (by simp; omega)]
  have hnew : chipSum (codes ++ last) chips = (last.map BitVec.toNat).sum := by
    unfold chipSum
    rw [← h, List.drop_left, ← hlast, List.take_length]
  simp only [chipSums, List.range_succ, List.map_append, List.map_cons, List.map_nil, hnew, List.map_congr_left hbefore]

/-- So many chips of four conversions each, from the start of SAMPLING. -/
theorem took_of_codes (records : List ProberRecord) (own : Option Nat) (chips : Nat) (hchips : chips ≤ 16)
    (codes : List AdcCode) (h : codes.length = 4 * chips) :
    (codes.foldl Sampling.takeCode (Sampling.start records own)).Took records codes chips := by
  induction chips generalizing codes with
  | zero =>
    obtain rfl := List.length_eq_zero_iff.mp h
    exact ⟨rfl, rfl, .start records own, rfl⟩
  | succ chips ih =>
    obtain ⟨before, last, rfl, hbefore⟩ : ∃ before last, codes = before ++ last ∧ before.length = 4 * chips :=
      ⟨_, _, (List.take_append_drop (4 * chips) codes).symm, by simp; omega⟩
    have hlast : last.length = 4 := by simp at h; omega
    obtain ⟨a, b, c, e, rfl⟩ := List.length_eq_four.mp hlast
    obtain ⟨hrecords, hcodes, hcorrelates, hclip⟩ := ih (by omega) before hbefore
    have hchip : (before.foldl Sampling.takeCode (Sampling.start records own)).chip < 16 := by
      rw [hcorrelates.place]; simp [chipSums]; omega
    rw [List.foldl_append, takeCode_four _ hcodes hchip]
    have hadded := hcorrelates.addChip ([a, b, c, e].map BitVec.toNat).sum
    rw [← chipSums_append hbefore _ hlast] at hadded
    exact ⟨hrecords, rfl, ⟨hadded.taken, hadded.place, hadded.six, hadded.accumulated, hadded.balance⟩,
      by rw [List.any_append, hclip]⟩

/-! ### The codes (R23) -/

/-- The table of R23, the null code last. -/
theorem codeSigns_table :
    [some 1, some 2, some 3, some 4, some 5, some 6, none].map codeSigns =
      ["+--++--++--++--+", "+-+--+-++-+--+-+", "++----++++----++", "+-+-+-+--+-+-+-+", "++--++----++--++", "++++--------++++",
        "+--+-++--++-+--+"].map (fun chips => chips.toList.map (fun c => c == '+')) := by
  decide

/-- The codes of R23 as positions: the null code and those of the six probers. -/
def codePositions : List (Option Nat) := [none, some 1, some 2, some 3, some 4, some 5, some 6]

/-- Every code is balanced, and any two are orthogonal. -/
theorem codeSigns_balanced : ∀ p ∈ codePositions,
    (codeSigns p).length = 16 ∧ (codeSigns p).count true = 8 ∧
    (∀ q ∈ codePositions, p ≠ q → (((codeSigns p).zip (codeSigns q)).countP (fun x => x.1 == x.2)) = 8) := by
  decide

/-- The chip sums of light that rises by the same step from chip to chip, weighed by their start and their step. -/
theorem correlationOf_linear (code : Option Nat) (a b n : Nat) :
    correlationOf code ((List.range n).map (fun j => a + b * j)) =
      a * correlationOf code ((List.range n).map (fun _ => 1)) + b * correlationOf code (List.range n) := by
  induction n with
  | zero => rfl
  | succ n ih =>
    have hsign : signedSum code n (a + b * n) = a * signedSum code n 1 + b * signedSum code n n := by
      unfold signedSum
      split <;> push_cast <;> ring
    simp only [List.range_succ, List.map_append, List.map_cons, List.map_nil, correlationOf_concat, List.length_map,
      List.length_range, ih, hsign]
    ring

/-- In every code the "+" chips weigh as much as the "−" chips, in number and in place. -/
theorem codeSigns_centred : ∀ p ∈ codePositions,
    correlationOf p ((List.range 16).map (fun _ => 1)) = 0 ∧ correlationOf p (List.range 16) = 0 := by
  decide

/-- Steady and ramping light adds nothing to a correlation (R35). -/
theorem correlationOf_ramp {p : Option Nat} (hp : p ∈ codePositions) (a b : Nat) :
    correlationOf p ((List.range 16).map (fun j => a + b * j)) = 0 := by
  obtain ⟨hsteady, hramp⟩ := codeSigns_centred p hp
  rw [correlationOf_linear, hsteady, hramp]
  simp

/-- Settles O16: the codes four by four, and the table of R23. -/
theorem sixtyFourConversionsGiveTheCorrelations : Obligations.SixtyFourConversionsGiveTheCorrelations := by
  refine ⟨fun records own codes h => ?_, codeSigns_table, fun p hp => ?_⟩
  · obtain ⟨hrecords, hcodes, hcorrelates, hclip⟩ := took_of_codes records own 16 (by omega) codes (by omega)
    refine ⟨hcorrelates.place, hcodes, hcorrelates.taken, hrecords, fun i hi => ?_, hcorrelates.balance, ?_⟩
    · rw [hcorrelates.accumulated i hi, Sampling.assigned, hrecords]
      rfl
    · rw [hclip]
      simp
  · obtain ⟨hlen, hcount, horthogonal⟩ := codeSigns_balanced p hp
    exact ⟨hlen, hcount, horthogonal, correlationOf_ramp hp⟩

end Sys2Proof.Machine

/-! SUPPORT. The part's own time: the slot timer, the line's times and the free-running tick over many cycles (R4, R162, R173,
R177). -/

namespace Sys2Proof.Machine

-- One thread, as above: a thread per theorem exceeds the memory limit of the check.
set_option Elab.async false

/-! ### The slot timer (R4) -/

/-- A timer at the start of a slot. -/
theorem SlotTimer.at_start {t : SlotTimer} (hp : t.prescaler = 0) (ht : t.tick = 0) :
    { t with prescaler := 0, tick := 0 } = t := by
  cases t
  simp_all

/-- Within a slot the cycles count up the prescaler, and every 256 of them a tick. -/
theorem slotTimer_within_slot {t : SlotTimer} (hc : t.counting = true) (hp : t.prescaler = 0) (ht : t.tick = 0) (n : Nat)
    (hn : n < 128 * 256) : Nat.repeat SlotTimer.cycle n t = { t with prescaler := n % 256, tick := n / 256 } := by
  induction n with
  | zero => exact (SlotTimer.at_start hp ht).symm
  | succ n ih =>
    rw [Nat.repeat, ih (by omega)]
    unfold SlotTimer.cycle
    simp only [hc, Bool.not_true, Bool.false_eq_true, if_false]
    split
    · rw [show (n + 1) % 256 = n % 256 + 1 by omega, show (n + 1) / 256 = n / 256 by omega]
    · rw [if_pos (by omega), show (n + 1) % 256 = 0 by omega, show (n + 1) / 256 = n / 256 + 1 by omega]

/-- 128 ticks of 256 cycles end a slot. -/
theorem slotTimer_after_slot {t : SlotTimer} (hc : t.counting = true) (hp : t.prescaler = 0) (ht : t.tick = 0) :
    Nat.repeat SlotTimer.cycle (128 * 256) t = { t with slot := t.slot + 1 } := by
  have hlast := slotTimer_within_slot hc hp ht (128 * 256 - 1) (by omega)
  rw [show 128 * 256 = (128 * 256 - 1) + 1 by rfl, Nat.repeat, hlast]
  have hwrap : SlotTimer.cycle { t with prescaler := 255, tick := 127 } =
      { t with prescaler := 0, tick := 0, slot := t.slot + 1 } := by
    simp [SlotTimer.cycle, hc]
  calc SlotTimer.cycle { t with prescaler := (128 * 256 - 1) % 256, tick := (128 * 256 - 1) / 256 }
      = { ({ t with prescaler := 0, tick := 0 } : SlotTimer) with slot := t.slot + 1 } := hwrap
    _ = { t with slot := t.slot + 1 } := by rw [SlotTimer.at_start hp ht]

/-! ### The line's own time (R162, R173, R177) -/

/-- So many cycles of the line. -/
def LineInterface.cycles (l : LineInterface) (n : Nat) : LineInterface := Nat.repeat LineInterface.cycle n l

theorem LineInterface.cycles_succ (l : LineInterface) (n : Nat) : l.cycles (n + 1) = (l.cycles n).cycle := rfl

/-- A cycle of the line changes its contention state and its level alone. -/
theorem LineInterface.cycle_frame (l : LineInterface) :
    l.cycle = { l with contention := l.cycle.contention, level := l.cycle.level } := by
  unfold LineInterface.cycle
  split <;> rfl

/-- The listen-only timer is none of the line's times. -/
theorem LineInterface.cycle_listenOnly (l : LineInterface) (t : Timer) :
    ({ l with listenOnly := t } : LineInterface).cycle = { l.cycle with listenOnly := t } := by
  obtain ⟨queue, contention, followOn, entries, level, framer, listenOnly, counters⟩ := l
  cases contention with
  | unfixed => rfl
  | fixed e a h => cases h <;> rfl

theorem LineInterface.cycles_frame (l : LineInterface) (n : Nat) :
    (l.cycles n).queue = l.queue ∧ (l.cycles n).framer = l.framer ∧ (l.cycles n).followOn = l.followOn ∧
      (l.cycles n).counters = l.counters := by
  induction n with
  | zero => exact ⟨rfl, rfl, rfl, rfl⟩
  | succ n ih =>
    rw [LineInterface.cycles_succ, LineInterface.cycle_frame]
    exact ih

/-- This node's notice does not go out: none is being sent, or its last bit has gone out. -/
def Contention.silent (c : Contention) : Prop := ∀ e a notice left, c ≠ .fixed e a (.sending notice (left + 1))

/-- While this node's notice does not go out, the level counts its own idle time (R162). -/
theorem LineInterface.cycle_of_silent {l : LineInterface} (h : l.contention.silent) :
    l.cycle.level = l.level.cycle ∧ l.cycle.contention.silent := by
  unfold LineInterface.cycle Contention.silent at *
  split
  · rename_i e a units hc
    refine ⟨rfl, fun e' a' notice left => ?_⟩
    dsimp only
    split
    · simp
    · rw [hc]; simp
  · rename_i e a n units hc
    have hzero : units = 0 := by
      cases units with
      | zero => rfl
      | succ left => exact absurd hc (h e a n left)
    subst hzero
    exact ⟨rfl, by simp⟩
  · rename_i e a units hc
    exact ⟨rfl, h⟩
  · exact ⟨rfl, h⟩
  · exact ⟨rfl, h⟩

/-- A cycle adds three units to an idle of up to 4 byte times. -/
theorem idle_cycle {units n : Nat} :
    LineLevel.cycle (.idle (min (4 * byteTime) (units + 3 * n))) = .idle (min (4 * byteTime) (units + 3 * (n + 1))) := by
  simp only [LineLevel.cycle, LineLevel.idle.injEq]
  omega

/-- The level of a line on which this node's notice does not go out (R162). -/
theorem LineInterface.cycles_of_silent {l : LineInterface} (h : l.contention.silent) (n : Nat) :
    (l.cycles n).contention.silent ∧
    (l.level = .busy → (l.cycles n).level = .busy) ∧
    ∀ units, l.level = .idle units → units ≤ 4 * byteTime →
      (l.cycles n).level = .idle (min (4 * byteTime) (units + 3 * n)) := by
  induction n with
  | zero => exact ⟨h, id, fun units hl hle => by simpa [LineInterface.cycles, Nat.repeat, hle] using hl⟩
  | succ n ih =>
    obtain ⟨hsilent, hbusy, hidle⟩ := ih
    obtain ⟨hlevel, hkept⟩ := LineInterface.cycle_of_silent hsilent
    rw [LineInterface.cycles_succ, hlevel]
    refine ⟨hkept, fun hl => by rw [hbusy hl]; rfl, fun units hl hle => ?_⟩
    rw [hidle units hl hle, idle_cycle]

/-- A counting backoff is silent, whatever its time. -/
theorem Contention.silent_counting (e a units : Nat) : Contention.silent (.fixed e a (.counting units)) := by
  simp [Contention.silent]

/-- A backoff does not count before the line has been idle for 4 byte times (R173). -/
theorem LineInterface.cycles_backoff_waits {l : LineInterface} {e a left : Nat}
    (hc : l.contention = .fixed e a (.counting left)) (n : Nat)
    (h : l.level = .busy ∨ ∃ units, l.level = .idle units ∧ units + 3 * n ≤ 4 * byteTime) :
    (l.cycles n).contention = l.contention := by
  induction n with
  | zero => rfl
  | succ n ih =>
    have hbefore := ih (h.imp id fun ⟨units, hl, hle⟩ => ⟨units, hl, by omega⟩)
    obtain ⟨-, hbusy, hidle⟩ := LineInterface.cycles_of_silent (by rw [hc]; exact Contention.silent_counting e a left) n
    have hwaits : (l.cycles n).idleFour = false := by
      unfold LineInterface.idleFour LineInterface.idleFor
      rcases h with hl | ⟨units, hl, hle⟩
      · rw [hbusy hl]
      · rw [hidle units hl (by omega)]
        simp only [decide_eq_false_iff_not]
        omega
    rw [LineInterface.cycles_succ, ← hbefore]
    unfold LineInterface.cycle
    rw [hbefore, hc]
    simp [hwaits]

/-- It counts three units a cycle from there on (R173). -/
theorem LineInterface.cycles_backoff_counts {l : LineInterface} {e a left : Nat}
    (hc : l.contention = .fixed e a (.counting left)) (hl : l.level = .idle (4 * byteTime)) (n : Nat) :
    (l.cycles n).contention = .fixed e a (.counting (left - 3 * n)) := by
  induction n with
  | zero => exact hc
  | succ n ih =>
    obtain ⟨-, -, hidle⟩ := LineInterface.cycles_of_silent (by rw [hc]; exact Contention.silent_counting e a left) n
    have hlevel := hidle _ hl (le_refl _)
    have hfour : (l.cycles n).idleFour = true := by
      unfold LineInterface.idleFour LineInterface.idleFor
      rw [hlevel]
      simp only [decide_eq_true_eq]
      omega
    rw [LineInterface.cycles_succ]
    unfold LineInterface.cycle
    rw [ih]
    simp only [hfour, if_true]
    rw [show left - 3 * (n + 1) = left - 3 * n - 3 by omega]

/-- A notice goes out three units a cycle (R174). -/
theorem LineInterface.cycles_sending {l : LineInterface} {e a left : Nat} {notice : Notice}
    (hc : l.contention = .fixed e a (.sending notice left)) (n : Nat) :
    (l.cycles n).contention = .fixed e a (.sending notice (left - 3 * n)) := by
  induction n with
  | zero => exact hc
  | succ n ih =>
    rw [LineInterface.cycles_succ]
    unfold LineInterface.cycle
    rw [ih, show left - 3 * (n + 1) = left - 3 * n - 3 by omega]

/-- The level of a line on which a notice goes out: busy up to the end of its last stop bit (R162). -/
theorem LineInterface.cycles_sending_level {l : LineInterface} {e a left : Nat} {notice : Notice}
    (hc : l.contention = .fixed e a (.sending notice left)) (n : Nat) :
    (0 < n → 3 * n < left → (l.cycles n).level = .busy) ∧
    (0 < left → left ≤ 3 * n → (l.cycles n).level = .idle (min (4 * byteTime) (3 * n - left))) := by
  induction n with
  | zero => exact ⟨fun h => absurd h (by omega), fun h hle => absurd hle (by omega)⟩
  | succ n ih =>
    obtain ⟨-, hidle⟩ := ih
    have hlevel : (l.cycles (n + 1)).level =
        if left - 3 * n = 0 then (l.cycles n).level.cycle
        else if left - 3 * n ≤ 3 then .idle (3 - (left - 3 * n)) else .busy := by
      rw [LineInterface.cycles_succ]
      conv_lhs => unfold LineInterface.cycle
      rw [LineInterface.cycles_sending hc]
    rw [hlevel]
    refine ⟨fun _ hlt => by rw [if_neg (by omega), if_neg (by omega)], fun hpos hle => ?_⟩
    split
    · rw [hidle hpos (by omega)]
      simp only [LineLevel.cycle, LineLevel.idle.injEq]
      omega
    · rw [if_pos (by omega)]
      simp only [LineLevel.idle.injEq, byteTime]
      omega

/-- What neither counts nor is being sent stands still. -/
theorem LineInterface.cycles_contention_still {l : LineInterface}
    (h : l.contention = .unfixed ∨
      ∃ e a, l.contention = .fixed e a .lost ∨ ∃ left, l.contention = .fixed e a (.paused left)) (n : Nat) :
    (l.cycles n).contention = l.contention := by
  induction n with
  | zero => rfl
  | succ n ih =>
    rw [LineInterface.cycles_succ]
    conv_lhs => unfold LineInterface.cycle
    rcases h with h | ⟨e, a, h | ⟨left, h⟩⟩ <;> rw [h] at ih <;> rw [ih, h]

/-! ### The part's cycles (00_scope.md, Time base) -/

/-- A free-running tick leaves of the line all but its listen-only timer. -/
theorem freeTick_line (s : State) : ∃ t, (freeTick s).line = { s.line with listenOnly := t } := by
  unfold freeTick
  dsimp only
  split
  · exact ⟨_, rfl⟩
  · exact ⟨s.line.listenOnly, rfl⟩

/-- A crystal cycle is a cycle of the line. -/
theorem crystalCycle_line (s : State) : ∃ t, (crystalCycle s).line = { s.line.cycle with listenOnly := t } := by
  unfold crystalCycle
  dsimp only
  split
  · exact ⟨s.line.cycle.listenOnly, rfl⟩
  · exact freeTick_line _

/-- The line of the part over many cycles. -/
theorem crystalCycles_line (s : State) (n : Nat) :
    ∃ t, (Nat.repeat crystalCycle n s).line = { s.line.cycles n with listenOnly := t } := by
  induction n with
  | zero => exact ⟨s.line.listenOnly, rfl⟩
  | succ n ih =>
    obtain ⟨t, ht⟩ := ih
    obtain ⟨u, hu⟩ := crystalCycle_line (Nat.repeat crystalCycle n s)
    refine ⟨u, ?_⟩
    rw [Nat.repeat, hu, ht, LineInterface.cycle_listenOnly]
    rfl

/-- What so many cycles count between two free-running ticks: the prescaler, the slot timer, the PWM counter and the line's
own times. -/
def State.afterCycles (s : State) (n : Nat) : State :=
  { s with
    prescaler := n % 256
    round := { s.round with timer := Nat.repeat SlotTimer.cycle n s.round.timer }
    light := { s.light with counter := s.light.counter + n }
    line := s.line.cycles n }

/-- Nothing else counts between two ticks. -/
theorem crystalCycles_within_tick {s : State} (hp : s.prescaler = 0) (n : Nat) (hn : n < 256) :
    Nat.repeat crystalCycle n s = s.afterCycles n := by
  induction n with
  | zero =>
    have hstart : { s with prescaler := 0 } = s := by rw [← hp]
    exact hstart.symm
  | succ n ih =>
    rw [Nat.repeat, ih (by omega)]
    have hcount : (s.afterCycles n).prescaler < 255 := by simp only [State.afterCycles]; omega
    have hnext : (s.afterCycles n).prescaler + 1 = (n + 1) % 256 := by simp only [State.afterCycles]; omega
    simp only [crystalCycle, hcount, if_true, hnext]
    rfl

/-- The cycle after the last one of a tick passes a free-running tick. -/
theorem crystalCycles_tick {s : State} (hp : s.prescaler = 0) (n : Nat) (hn : n = 255) :
    Nat.repeat crystalCycle (n + 1) s = freeTick (s.afterCycles (n + 1)) := by
  rw [Nat.repeat, crystalCycles_within_tick hp n (by omega)]
  have hlast : ¬ (s.afterCycles n).prescaler < 255 := by simp only [State.afterCycles]; omega
  have hnext : 0 = (n + 1) % 256 := by omega
  simp only [crystalCycle, hlast, if_false, hnext]
  rfl

/-- The listen-only timer is none of the line's own times. -/
theorem LineInterface.cycles_listenOnly (l : LineInterface) (n : Nat) : (l.cycles n).listenOnly = l.listenOnly := by
  induction n with
  | zero => rfl
  | succ n ih => rw [LineInterface.cycles_succ, LineInterface.cycle_frame]; exact ih

/-- What a free-running tick never counts, and the start-up hold, which runs before listen-only as well (R195). -/
theorem freeTick_outside (s : State) :
    (freeTick s).prescaler = s.prescaler ∧ (freeTick s).phase = s.phase ∧ (freeTick s).sense = s.sense ∧
      (freeTick s).rng = s.rng ∧ (freeTick s).pending = s.pending ∧ (freeTick s).zone.hold = s.zone.hold.tick := by
  unfold freeTick
  dsimp only
  split <;> exact ⟨rfl, rfl, rfl, rfl, rfl, rfl⟩

/-- Settles O3: the slot timer, the line and the timers, each over many cycles. -/
theorem slotLastsAHundredTwentyEightTicks : Obligations.SlotLastsAHundredTwentyEightTicks := by
  refine ⟨fun t hc hp ht => ⟨slotTimer_after_slot hc hp ht, fun n hn => ?_⟩, fun s n => ?_, fun s hp => ⟨fun n hn => ?_, ?_⟩⟩
  · rw [slotTimer_within_slot hc hp ht n hn]
    exact ⟨rfl, rfl⟩
  · obtain ⟨timer, hline⟩ := crystalCycles_line s n
    dsimp only
    rw [hline]
    refine ⟨fun hs => (LineInterface.cycles_of_silent hs n).2, fun e a left hc => ⟨?_, ?_⟩,
      fun e a notice left hc => ⟨?_, ?_⟩, fun h => ?_, LineInterface.cycles_frame s.line n⟩
    · exact LineInterface.cycles_backoff_waits hc n
    · exact fun hl => LineInterface.cycles_backoff_counts hc hl n
    · exact LineInterface.cycles_sending hc n
    · exact LineInterface.cycles_sending_level hc n
    · exact LineInterface.cycles_contention_still h n
  · dsimp only
    rw [crystalCycles_within_tick hp n hn]
    exact ⟨Nat.mod_eq_of_lt hn, rfl, rfl, rfl, rfl, rfl, rfl, s.line.cycles_listenOnly n, rfl⟩
  · dsimp only
    rw [crystalCycles_tick hp 255 rfl]
    obtain ⟨hprescaler, hphase, hsense, hrng, hpending, hhold⟩ := freeTick_outside (s.afterCycles 256)
    refine ⟨hprescaler, hphase, hsense, hrng, hpending, hhold, fun hl => ?_⟩
    have hlive : (s.afterCycles 256).live = true := hl
    simp only [freeTick, hlive, if_true]
    exact ⟨rfl, rfl, rfl, rfl, rfl, rfl, congrArg Timer.tick (s.line.cycles_listenOnly 256), rfl⟩

end Sys2Proof.Machine

/-! SUPPORT. What is due of the part's own, list by list (log entries 1, 2). -/

namespace Sys2Proof.Machine

-- One thread, as above: a thread per theorem exceeds the memory limit of the check.
set_option Elab.async false

variable {s : State} {c : Instr}

/-! ### The lists of events due -/

theorem mem_dueIf {condition : Bool} {d : Instr} : c ∈ dueIf condition d ↔ condition = true ∧ c = d := by
  unfold dueIf
  split <;> simp_all

theorem ranOut_iff (t : Timer) : ranOut t = true ↔ t = some 0 := by simp [ranOut]

/-- The line has been idle for so many byte times (R162). -/
theorem idleFor_iff (l : LineInterface) (bytes : Nat) :
    l.idleFor bytes = true ↔ ∃ units, l.level = .idle units ∧ bytes * byteTime ≤ units := by
  unfold LineInterface.idleFor
  split <;> simp_all

/-- The expiries: a timer at 0, in the state that owns it. -/
theorem mem_dueTimers :
    c ∈ s.dueTimers ↔
      (s.line.listenOnly = some 0 ∧ s.phase = .listenOnly) ∧ c = .endOfListenOnly ∨
      s.zone.hold = some 0 ∧ c = .startUpHoldEnd ∨
      (s.sched.probe = some 0 ∧ s.sched.state = .resting) ∧ c = .probeTimerExpiry ∨
      ((s.sched.retry = some 0 ∧ s.sched.wait = some .delay) ∧ s.phase ≠ .listenOnly) ∧ c = .retryDelayExpiry ∨
      (s.sched.deadline = some 0 ∧ s.sched.state = .wanting) ∧ c = .wantDeadlineExpiry ∨
      s.sched.brisk = some 0 ∧ c = .briskTimerExpiry ∨
      s.table.agingMinute = some 0 ∧ c = .agingMinute ∨
      s.table.stirSpacing = some 0 ∧ c = .stirSpacingExpiry ∨
      s.election.ageSecond = some 0 ∧ c = .ageSecond ∨
      s.election.generationTimer = some 0 ∧ c = .generationTimerExpiry ∨
      s.election.claimSpacing = some 0 ∧ c = .claimSpacingExpiry ∨
      s.zone.settle = some 0 ∧ c = .settleTimerExpiry ∨
      s.light.sampling = some 0 ∧ c = .occupancySample s.light.pin ∨
      s.light.lockout = some 0 ∧ c = .lockoutExpiry ∨
      (s.light.holdTimer = some 0 ∧ s.light.occupancy = .occupied) ∧ c = .holdTimerExpiry ∨
      (s.light.graceTimer = some 0 ∧ s.light.occupancy = .grace) ∧ c = .graceTimerExpiry ∨
      s.light.presenceSpacing = some 0 ∧ c = .presenceSpacingExpiry ∨
      s.light.fadeTick = some 0 ∧ c = .fadeTick ∨
      s.climate.sampleTimer = some 0 ∧ c = .sampleTimerExpiry ∨
      s.climate.readingHold = some 0 ∧ c = .readingHoldExpiry ∨
      s.climate.warmthTimer = some 0 ∧ c = .warmthTimerExpiry ∨
      s.climate.rosterSecond = some 0 ∧ c = .rosterSecond ∨
      (s.climate.controlTimer = some 0 ∧ s.terminal = true) ∧ c = .controlStep ∨
      s.memory.rest = some 0 ∧ c = .restTimerExpiry ∨
      s.memory.linkHoldOff = some 0 ∧ c = .linkHoldOffExpiry := by
  unfold State.dueTimers
  simp only [List.mem_append, mem_dueIf, Bool.and_eq_true, ranOut_iff, State.inListenOnly,
    Bool.not_eq_true', decide_eq_true_eq, decide_eq_false_iff_not, or_assoc, ne_eq]

/-- The k-th sample of a chip slot comes 16 ticks after the one before (R33). -/
theorem sampleTick_eq {k : Nat} (h : k < 4) : sampleTick k = 40 + 16 * k := by
  interval_cases k <;> rfl

/-- A sample is taken in SAMPLING, while fewer than four are and the converter is free (R26, R33). -/
theorem samplesNow_iff :
    s.samplesNow = true ↔ (∃ d, s.sense.round = .sampling d) ∧ s.round.timer.nextSample < 4 ∧
      s.sense.lightConverting = false ∧ ∀ b ∈ s.sense.burst, b.converting = false := by
  unfold State.samplesNow State.temperatureConverting
  cases hr : s.sense.round <;> cases hb : s.sense.burst <;> simp [and_assoc]

/-- The signal of the next chip is due from its slot on (R8). -/
theorem mem_chipSignalDue (t : SlotTimer) :
    c ∈ (if h : t.nextChip < 16 then dueIf (decide (16 + t.nextChip ≤ t.slot)) (.chipSignal ⟨t.nextChip, h⟩) else []) ↔
      ∃ j : Fin 16, (j.val = t.nextChip ∧ 16 + j.val ≤ t.slot) ∧ c = .chipSignal j := by
  split
  · rename_i h
    rw [mem_dueIf, decide_eq_true_eq]
    constructor
    · exact fun ⟨hslot, hc⟩ => ⟨⟨t.nextChip, h⟩, ⟨rfl, hslot⟩, hc⟩
    · rintro ⟨j, ⟨hj, hslot⟩, rfl⟩
      exact ⟨hj ▸ hslot, congrArg Instr.chipSignal (Fin.ext hj)⟩
  · rename_i h
    simp only [List.not_mem_nil, false_iff]
    rintro ⟨j, ⟨hj, -⟩, -⟩
    exact h (hj ▸ j.isLt)

/-- The slot events, by the phase of the view (R6, R8, R33). -/
theorem mem_dueSlots :
    c ∈ s.dueSlots ↔
      (s.round.phase = .opening ∧ 12 ≤ s.round.timer.slot ∧ s.round.timer.guardPassed = false) ∧ c = .guardStart ∨
      (s.round.phase = .opening ∧ 16 ≤ s.round.timer.slot) ∧ c = .startOfChips ∨
      (∃ j : Fin 16, (s.round.phase = .chips ∧ j.val = s.round.timer.nextChip ∧ 16 + j.val ≤ s.round.timer.slot) ∧
        c = .chipSignal j) ∨
      (s.round.phase = .chips ∧ s.samplesNow = true ∧ s.round.timer.nextChip + 15 = s.round.timer.slot ∧
        sampleTick s.round.timer.nextSample ≤ s.round.timer.tick) ∧ c = .chipSample ∨
      (s.round.phase = .chips ∧ 32 ≤ s.round.timer.slot) ∧ c = .startOfSettle ∨
      (s.round.phase = .settle ∧ 34 ≤ s.round.timer.slot) ∧ c = .roundClose := by
  unfold State.dueSlots
  cases hp : s.round.phase with
  | none => simp
  | opening => simp [mem_dueIf]
  | settle => simp [mem_dueIf]
  | chips =>
    rw [List.mem_append, List.mem_append, mem_chipSignalDue]
    simp [mem_dueIf, or_assoc, and_assoc]

/-- The line events, by the contention state (R172, R173, R177). -/
theorem mem_dueLine :
    c ∈ s.dueLine ↔ s.line.queue ≠ [] ∧
      ((s.line.contention = .unfixed ∧ s.line.idleFor 4 = true) ∧ c = .headFixing ∨
      ((∃ e a, s.line.contention = .fixed e a .lost ∨ ∃ units, s.line.contention = .fixed e a (.paused units)) ∧
        s.line.idleFor 4 = true) ∧ c = .backoffResume ∨
      ((∃ e a, s.line.contention = .fixed e a (.counting 0)) ∧ s.line.idleFor 4 = true) ∧ c = .lineWin ∨
      ((∃ e a n, s.line.contention = .fixed e a (.sending n 0)) ∧ s.line.idleFor 3 = true) ∧ c = .noticeCompletion) := by
  unfold State.dueLine
  cases hq : s.line.queue with
  | nil => cases hc : s.line.contention with
    | unfixed => simp
    | fixed e a h => cases h <;> simp
  | cons q rest => cases hc : s.line.contention with
    | unfixed => simp [mem_dueIf, LineInterface.idleFour]
    | fixed e a h =>
      cases h with
      | counting units => simp [mem_dueIf, LineInterface.idleFour, and_comm]
      | paused units => simp [mem_dueIf, LineInterface.idleFour]
      | lost => simp [mem_dueIf, LineInterface.idleFour]
      | sending n units => simp [mem_dueIf, Option.isSome_iff_exists, sentWhole_eq_some, hc]

/-- The events of the output stage and of the page cycle (R138, R190). -/
theorem mem_dueStages :
    c ∈ s.dueStages ↔
      1024 ≤ s.light.counter ∧ c = .pwmReload ∨
      (s.light.drive = true ∧ s.light.active ≤ s.light.counter ∧ s.light.active < 1024) ∧ c = .compareMatch ∨
      (∃ elapsed, s.memory.engine = .saving elapsed ∧ 576 ≤ elapsed) ∧ c = .saveCompletion ∨
      (∃ elapsed, s.memory.engine = .clearing elapsed ∧ 384 ≤ elapsed) ∧ c = .clearCompletion := by
  have hsave : saveTicks = 576 := rfl
  have hclear : clearTicks = 384 := rfl
  unfold State.dueStages
  cases he : s.memory.engine <;> simp [mem_dueIf, hsave, hclear, and_assoc]

/-- Before step 2 of start-up the part has no events of its own (R195). -/
theorem stageRuns_iff : s.stageRuns = true ↔ s.phase ≠ .held ∧ s.phase ≠ .oscillatorWait := by
  unfold State.stageRuns State.live
  cases s.phase <;> simp

/-- What is due, and not a fade step that waits (R132). -/
theorem mem_due_iff (hr : s.stageRuns = true) :
    c ∈ s.due ↔ (c ∈ s.dueTimers ∨ c ∈ s.dueSlots ∨ c ∈ s.dueLine ∨ c ∈ s.dueStages) ∧
      (c = .fadeTick ∨ c = .startOfSettle → s.graceForNoTime = false) := by
  unfold State.due makesFadeStep
  rw [if_pos hr, List.mem_filter]
  simp only [List.mem_append, or_assoc]
  refine and_congr_right fun _ => ?_
  cases s.graceForNoTime <;> simp

/-- A fade step waits while the target stands at the grace level for no time (R132). -/
theorem graceForNoTime_iff :
    s.graceForNoTime = true ↔
      s.light.occupancy = .grace ∧ s.light.graceTimer = some (seconds 120) ∧ s.prescaler = 0 ∧
        (s.light.sampling = some 0 ∨
          ((∃ units, s.line.level = .idle units ∧ 3 * byteTime ≤ units) ∧
            ∃ e a sender zone, s.line.contention = .fixed e a (.sending ⟨sender, .presence zone⟩ 0))) := by
  have hpresence : s.presenceAtHand = true ↔ s.light.sampling = some 0 ∨
      ((∃ units, s.line.level = .idle units ∧ 3 * byteTime ≤ units) ∧
        ∃ e a sender zone, s.line.contention = .fixed e a (.sending ⟨sender, .presence zone⟩ 0)) := by
    unfold State.presenceAtHand
    rw [Bool.or_eq_true, ranOut_iff, ← idleFor_iff]
    refine or_congr_right ?_
    split
    · rename_i sender zone h
      obtain ⟨e, a, hc⟩ := (sentWhole_eq_some _ _).mp h
      simp [hc]
    · rename_i h
      simp only [Bool.false_eq_true, false_iff, not_and]
      rintro - ⟨e, a, sender, zone, hc⟩
      exact h sender zone ((sentWhole_eq_some _ _).mpr ⟨e, a, hc⟩)
  simp [State.graceForNoTime, hpresence, and_assoc]

/-- The completion of a notice sent whole is due at 3 byte times of idle (R177). -/
theorem noticeCompletion_mem_due (hr : s.stageRuns = true) :
    .noticeCompletion ∈ s.due ↔
      s.line.queue ≠ [] ∧ s.line.idleFor 3 = true ∧ ∃ e a n, s.line.contention = .fixed e a (.sending n 0) := by
  simp [mem_due_iff hr, mem_dueTimers, mem_dueSlots, mem_dueLine, mem_dueStages, and_comm]

/-- A sample is due at its tick of the running chip (R33). -/
theorem chipSample_mem_due (hr : s.stageRuns = true) :
    .chipSample ∈ s.due ↔
      s.round.phase = .chips ∧ (∃ d, s.sense.round = .sampling d) ∧
        s.round.timer.nextChip + 15 = s.round.timer.slot ∧ s.round.timer.nextSample < 4 ∧
        40 + 16 * s.round.timer.nextSample ≤ s.round.timer.tick ∧ s.sense.lightConverting = false ∧
        ∀ b ∈ s.sense.burst, b.converting = false := by
  have hsample : .chipSample ∈ s.due ↔ s.round.phase = .chips ∧ s.samplesNow = true ∧
      s.round.timer.nextChip + 15 = s.round.timer.slot ∧
      sampleTick s.round.timer.nextSample ≤ s.round.timer.tick := by
    simp [mem_due_iff hr, mem_dueTimers, mem_dueSlots, mem_dueLine, mem_dueStages]
  rw [hsample, samplesNow_iff]
  constructor
  · rintro ⟨hchips, ⟨hsampling, hfew, hfree, hburst⟩, hslot, htick⟩
    exact ⟨hchips, hsampling, hslot, hfew, sampleTick_eq hfew ▸ htick, hfree, hburst⟩
  · rintro ⟨hchips, hsampling, hslot, hfew, htick, hfree, hburst⟩
    exact ⟨hchips, ⟨hsampling, hfew, hfree, hburst⟩, hslot, (sampleTick_eq hfew).symm ▸ htick⟩

/-! ### The step on an empty queue -/

theorem step_of_no_command (h : s.pending = []) : step s = idleStep s := by
  unfold step stepQueue
  rw [h]

/-- Nothing is due while the reset is held or the oscillator waits (R195). -/
theorem stage_of_waiting (h : s.phase = .held ∨ s.phase = .oscillatorWait) : s.stageRuns = false ∧ s.due = [] := by
  have hstage : s.stageRuns = false := by
    unfold State.stageRuns State.live
    rcases h with h | h <;> simp [h]
  exact ⟨hstage, by simp [State.due, hstage]⟩

/-- What a step does on an empty queue: nothing before step 2 of start-up, else an event due, else one crystal cycle. -/
theorem step_unqueued (hpending : s.pending = []) :
    (s.phase = .held ∨ s.phase = .oscillatorWait → step s = .next s) ∧
    (s.phase ≠ .held → s.phase ≠ .oscillatorWait → s.due = [] → step s = .next (crystalCycle s)) ∧
    (∀ c, s.due = [c] → step s = exec c s) ∧
    (s.due ≠ [] → ∃ c ∈ s.due, step s = exec c s ∨ step s = exec c { s with free := s.free + 1 }) := by
  rw [step_of_no_command hpending]
  refine ⟨fun h => ?_, fun hheld hwait hdue => ?_, fun c hdue => ?_, fun hdue => ?_⟩
  · simp [idleStep, (stage_of_waiting h).1]
  · simp [idleStep, stageRuns_iff.mpr ⟨hheld, hwait⟩, hdue, chooseDue]
  · obtain ⟨hr, -⟩ := mem_due (s := s) (c := c) (by simp [hdue])
    simp [idleStep, hr, hdue, chooseDue]
  · rcases idleStep_cases s with ⟨hr, -⟩ | ⟨-, hnone, -⟩ | ⟨c, hc, -, h⟩
    · exact absurd (by simp [State.due, hr]) hdue
    · exact absurd hnone hdue
    · exact ⟨c, hc, h⟩

/-- Settles O2, list by list: of all that may be due, the events of one command are those that carry its name. -/
theorem idleStepTakesADueEventOrOneCycle : Obligations.IdleStepTakesADueEventOrOneCycle := by
  refine ⟨fun s hpending => step_unqueued hpending, fun s h => (stage_of_waiting h).2, fun s hheld hwait => ?_⟩
  have hr := stageRuns_iff.mpr ⟨hheld, hwait⟩
  intro idleThree presence waits t idleFour
  have hwaits : s.graceForNoTime = true ↔ waits := graceForNoTime_iff
  have hthree : s.line.idleFor 3 = true ↔ idleThree := idleFor_iff _ 3
  have hfour : s.line.idleFor 4 = true ↔ idleFour := idleFor_iff _ 4
  have hmem (c : Instr) := mem_due_iff (c := c) hr
  simp only [mem_dueTimers, mem_dueSlots, mem_dueLine, mem_dueStages] at hmem
  refine ⟨by simp [hmem], by simp [hmem], by simp [hmem], by simp [hmem, and_assoc], by simp [hmem], by simp [hmem],
    by simp [hmem], by simp [hmem], by simp [hmem, ← hwaits], by simp [hmem], by simp [hmem, t], by simp [hmem, t],
    by simp [hmem, t], chipSample_mem_due hr, by simp [hmem, ← hwaits, t, and_assoc], by simp [hmem, t], ?_, ?_, ?_, ?_,
    by simp [hmem], by simp [hmem], by simp [hmem], by simp [hmem]⟩
  · simp [hmem, hfour, and_left_comm]
  · simp [hmem, hfour, and_comm]
  · simp [hmem, hfour, and_comm]
  · rw [noticeCompletion_mem_due hr, hthree]

end Sys2Proof.Machine

/-! SUPPORT. The completion of this node's notice: when it is due, what leaves and enters, the reports and the loopback
(R22, R100, R127, R170, R177, R178). -/

namespace Sys2Proof.Machine

-- One thread, as above: a thread per theorem exceeds the memory limit of the check.
set_option Elab.async false

/-! ### A start bit behind this node's notice (R162, R177) -/

/-- A start bit behind a notice that is out makes the line busy, and nothing else of it. -/
theorem pauseBackoff_of_sending {s : State} {e a units : Nat} {n : Notice}
    (hc : s.line.contention = .fixed e a (.sending n units)) :
    (pauseBackoff s).line = { s.line with level := .busy } := by
  simp only [pauseBackoff, hc, State.withLine_line]

/-- No completion falls due by the part's own clock while the line is busy. -/
theorem noticeCompletion_waits {s : State} {e a : Nat} {n : Notice}
    (hc : s.line.contention = .fixed e a (.sending n 0)) (hbusy : s.line.level = .busy) (k : Nat) :
    .noticeCompletion ∉ (Nat.repeat crystalCycle k s).due := by
  obtain ⟨timer, hline⟩ := crystalCycles_line s k
  obtain ⟨-, hlevel, -⟩ := LineInterface.cycles_of_silent (l := s.line) (by rw [hc]; simp [Contention.silent]) k
  intro hmem
  obtain ⟨hr, -⟩ := mem_due hmem
  obtain ⟨-, hidle, -⟩ := (noticeCompletion_mem_due hr).mp hmem
  rw [hline] at hidle
  simp [LineInterface.idleFor, hlevel hbusy] at hidle

/-- A notice being sent is that of the first request. -/
theorem sendingRequest_of_sending {l : LineInterface} {e a units : Nat} {n : Notice} {q : Queued} {rest : List Queued}
    (hc : l.contention = .fixed e a (.sending n units)) (hq : l.queue = q :: rest) :
    l.sendingRequest = some q.request := by
  simp [LineInterface.sendingRequest, hc, hq]

theorem sentWhole_of_sending {l : LineInterface} {e a : Nat} {n : Notice} (hc : l.contention = .fixed e a (.sending n 0)) :
    l.sentWhole = some n := (sentWhole_eq_some l n).mpr ⟨e, a, hc⟩

/-- What is broken behind this node's own notice is counted, and the idle that ends it is the one the completion waits for
(log entry 41). -/
theorem receiveBytes_behind_own {s : State} {e a : Nat} {n : Notice} (hl : s.live = true)
    (hc : s.line.contention = .fixed e a (.sending n 0)) (hbusy : s.line.level = .busy) (hf : s.line.framer = .ready)
    (hq : s.line.queue ≠ []) {raw : Collected} (hraw : judge raw = .counted) :
    receiveBytes raw s = { s with
      line := { s.line with
        level := .idle (3 * byteTime)
        counters := { s.line.counters with badNotices := bump s.line.counters.badNotices } } } := by
  obtain ⟨q, rest, hq⟩ := List.exists_cons_of_ne_nil hq
  have hsending := sendingRequest_of_sending hc hq
  have hframing : s.framing = false := by simp [State.framing, hsending]
  have htail : s.tailDisturbed = true := by
    simp [State.tailDisturbed, hl, hf, hsending, sentWhole_of_sending hc, hbusy]
  rcases receiveBytes_cases raw s with ⟨-, h | h, -⟩ | ⟨-, -, -, h⟩ | ⟨h, -⟩
  · simp [htail] at h
  · exact absurd hraw h
  · exact h
  · simp [hframing] at h

/-! ### What leaves and what enters (R170, R177) -/

/-- The state once the notice of the first request has left: the line idle for 3 byte times, no head fixed. -/
def State.noticeLeft (s : State) (rest : List Queued) : State :=
  { s with
    line := { s.line with
      queue := rest, contention := .unfixed, followOn := false, level := .idle (3 * byteTime) } }

/-- The owner is told, and a notice of the looped kinds is delivered (R178). -/
def looped (n : Notice) (s : State) : State :=
  if loopsBack n.body then deliver n (reportCompletion n s) else reportCompletion n s

theorem exec_noticeCompletion {s : State} {e a units : Nat} {n : Notice} {q : Queued} {rest : List Queued}
    (hc : s.line.contention = .fixed e a (.sending n units)) (hq : s.line.queue = q :: rest) :
    exec .noticeCompletion s = .next (completeNotice n q.request s) := by
  simp only [exec, execNoticeCompletion, hc, hq]

/-- Without a follow-on the request leaves; a CLAIM's follow-on leaves with it (R170). -/
theorem completeNotice_leaves {s : State} {q : Queued} {rest : List Queued} (hq : s.line.queue = q :: rest)
    (hf : s.line.followOn = false ∨ q.request = .claim) (n : Notice) :
    completeNotice n q.request s = looped n (s.noticeLeft rest) := by
  have hentering : (s.line.followOn && decide (q.request ≠ .claim)) = false := by
    rcases hf with hf | hf <;> simp [hf]
  have hleft : s.withLine { s.line.dropHead.followOnEnters q.request false with level := .idle (3 * byteTime) } =
      s.noticeLeft rest := by
    simp [LineInterface.followOnEnters, LineInterface.dropHead, hq, State.noticeLeft, State.withLine]
  simp only [completeNotice, hentering, hleft]
  rfl

/-- A follow-on enters the freed slot at its place by rank (R170). -/
theorem completeNotice_enters {s : State} {q : Queued} {rest : List Queued} (hq : s.line.queue = q :: rest)
    (hf : s.line.followOn = true) (hr : q.request ≠ .claim) (n : Notice) :
    ∃ queue, queue.Perm (⟨q.request, s.line.entries⟩ :: rest) ∧
      completeNotice n q.request s = looped n
        { s.noticeLeft rest with
          line := { (s.noticeLeft rest).line with queue := queue, entries := s.line.entries + 1 } } := by
  obtain ⟨hperm, henter⟩ := enter_spec s.line.dropHead q.request
  have hdrop : s.line.dropHead = { s.line with queue := rest, contention := .unfixed, followOn := false } := by
    simp [LineInterface.dropHead, hq]
  refine ⟨(s.line.dropHead.enter q.request).queue, ?_, ?_⟩
  · simpa [hdrop] using hperm
  · simp only [completeNotice, hf, hr, ne_eq, not_false_eq_true, decide_true, Bool.and_self,
      LineInterface.followOnEnters, if_true]
    rw [henter, hdrop]
    rfl

/-- A PRESENCE starts its spacing timer and comes back as a zone presence (R127, R129). -/
theorem looped_presence (i zone : Station) (s : State) :
    looped ⟨i, .presence zone⟩ s =
      (let spaced : State := { s with light := { s.light with presenceSpacing := some (seconds 30) } }
      if zone = s.zone.working then zonePresence spaced else spaced) := rfl

/-- A CALL of this node opens its round, at position 1 (R11, R22). -/
theorem looped_call {s : State} (hp : s.round.phase = .none) (d : Byte) :
    looped ⟨s.station, .call d⟩ s = { s with
      round := { s.round with
        phase := .opening, probers := [⟨s.station, d.toNat, 1⟩], own := some 1, disordered := false,
        timer := ⟨true, 0, 0, 0, false, 0, 0⟩ }
      sched := if s.sched.state = .probing then s.sched
        else { s.sched with state := .probing, probe := none, wait := none, deadline := none, retry := none } } := by
  have htaken : looped ⟨s.station, .call d⟩ s = takeCall s.station d.toNat s := rfl
  rw [htaken, takeCall_none hp]
  by_cases hprobing : s.sched.state = .probing <;> simp [hprobing]

/-- A JOIN of this node lists it at the next position (R14, R22). -/
theorem looped_join {s : State} (hp : s.round.phase = .opening) {p : Byte}
    (hnext : p.toNat = s.round.probers.length + 1 ∧ ∀ r ∈ s.round.probers, r.station ≠ s.station) (d : Byte) :
    looped ⟨s.station, .join d p⟩ s = { s with
      round := { s.round with
        probers := s.round.probers ++ [⟨s.station, d.toNat, p.toNat⟩], own := some p.toNat }
      sched := if s.sched.state = .probing then s.sched
        else { s.sched with state := .probing, probe := none, wait := none, deadline := none, retry := none } } := by
  have htaken : looped ⟨s.station, .join d p⟩ s = takeJoin s.station d.toNat p.toNat s := rfl
  rw [htaken, takeJoin_appends hp hnext]
  by_cases hprobing : s.sched.state = .probing <;> simp [hprobing]

/-! ### The CLAIM looped back (R100, R178) -/

/-- The line, the generator, the announcement, the root list and the working root stand. -/
structure ClaimKept (s t : State) : Prop where
  line : t.line = s.line
  rng : t.rng = s.rng
  announced : t.election.announced = s.election.announced
  spacing : t.election.claimSpacing = s.election.claimSpacing
  roots : t.election.roots = s.election.roots
  working : t.zone.working = s.zone.working

theorem ClaimKept.trans {s t u : State} (h : ClaimKept s t) (h' : ClaimKept t u) : ClaimKept s u :=
  ⟨h'.line.trans h.line, h'.rng.trans h.rng, h'.announced.trans h.announced, h'.spacing.trans h.spacing,
    h'.roots.trans h.roots, h'.working.trans h.working⟩

/-- Root duty moves the generation timer alone (R95). -/
theorem rootDuty_claimKept (before after : Station) (s : State) : ClaimKept s (rootDuty before after s) := by
  rcases rootDuty_cases before after s with ⟨-, e⟩ | ⟨-, -, e⟩ | ⟨-, -, -, e⟩ | ⟨-, -, -, e⟩ <;> rw [e] <;>
    exact ⟨rfl, rfl, rfl, rfl, rfl, rfl⟩

/-- While the spacing timer runs the announcement check does nothing (R98). -/
theorem announcementCheck_of_spacing {s : State} (h : s.election.claimSpacing.isSome = true) :
    announcementCheck s = s := by
  rcases announcementCheck_cases s with ⟨-, -, hnone, -⟩ | e
  · simp [hnone] at h
  · exact e

/-- A claim derived while the spacing timer runs is held and handed on, and not announced (R93, R101). -/
theorem takeDerived_claimKept {s : State} (c : Candidate) (h : s.election.claimSpacing.isSome = true) :
    ClaimKept s (takeDerived c s) := by
  let held : State := s.withElection { s.election with derived := c.claim, parent := c.parent }
  have hhanded : ClaimKept s (if s.election.derived.root = c.claim.root then held else handRoot c.claim.root held) := by
    split <;> exact ⟨rfl, rfl, rfl, rfl, rfl, rfl⟩
  have hduty := hhanded.trans (rootDuty_claimKept s.election.derived.root c.claim.root _)
  unfold takeDerived
  rw [announcementCheck_of_spacing (hduty.spacing ▸ h)]
  exact hduty

/-- While the spacing timer runs a derivation offers no CLAIM (R98, R101). -/
theorem derive_claimKept {s : State} (h : s.election.claimSpacing.isSome = true) : ClaimKept s (derive s) := by
  rcases derive_cases s with ⟨-, e⟩ | ⟨-, -, -, e⟩ | ⟨-, -, e⟩ <;> rw [e]
  · exact ⟨rfl, rfl, rfl, rfl, rfl, rfl⟩
  · exact ⟨rfl, rfl, rfl, rfl, rfl, rfl⟩
  · exact takeDerived_claimKept _ h

/-- While the spacing timer runs, what a CLAIM stored at the table and the root list derives is not announced. -/
theorem claimStored_claimKept {s : State} (h : s.election.claimSpacing.isSome = true) (sender : Station) (c : Claim)
    (roots : List (Option RootEntry)) (derives : Bool) :
    ClaimKept (s.withElection { s.election with roots := roots })
      (let both := (storeClaim sender c s).withElection { s.election with roots := roots }
      if derives then derive both else both) := by
  obtain ⟨-, -, -, hrng, -, -, -, -, hzone, -, -, hline, -⟩ := storeClaim_frame (s := s) sender c
  have hboth : ClaimKept (s.withElection { s.election with roots := roots })
      ((storeClaim sender c s).withElection { s.election with roots := roots }) :=
    ⟨hline, hrng, rfl, rfl, rfl, congrArg _ hzone⟩
  cases derives
  · exact hboth
  · exact hboth.trans (derive_claimKept h)

/-- While the spacing timer runs, a CLAIM taken changes the root list as R84 says, and no announcement. -/
theorem takeClaim_claimKept {s : State} (h : s.election.claimSpacing.isSome = true) (sender : Station) (c : Claim)
    (values : Option (Half × Byte)) :
    ClaimKept (s.withElection { s.election with roots := match values with
      | some (setpoint, setback) => (s.rootsAfterClaim ⟨c.root, c.generation, setpoint.toInt, setback.toNat, 0⟩).1
      | none => s.election.roots }) (takeClaim sender c values s) := by
  unfold takeClaim
  cases values with
  | none => exact claimStored_claimKept h sender c _ _
  | some v => exact claimStored_claimKept h sender c _ _

theorem looped_claim (i root : Station) (h : Byte) (g : Byte) (values : Option (Half × Byte)) (s : State) :
    looped ⟨i, .claim root h g values⟩ s =
      takeClaim i ⟨root, h.toNat, g⟩ values
        (s.withElection { s.election with announced := some ⟨root, h.toNat, g⟩, claimSpacing := some (seconds 1) }) := rfl

/-- Settles O45: the wait behind a start bit, and the completion by the body of the notice. -/
theorem noticeCompletionReportsAndLoopsBack : Obligations.NoticeCompletionReportsAndLoopsBack := by
  refine ⟨fun s e a n hl hc => ⟨?_, fun hbusy hf hq raw hraw => ?_⟩, fun s e a units body q rest hc hq => ?_⟩
  · have hline := pauseBackoff_of_sending hc
    have hexec : exec .lineStartBit s = .next (pauseBackoff s) := by simp [exec, execLineStartBit, hl]
    exact ⟨_, hexec, hline, noticeCompletion_waits (by rw [hline]; exact hc) (by rw [hline])⟩
  · have hexec : exec (.discardedNotice raw) s = .next (receiveBytes raw s) := rfl
    refine ⟨_, hexec.trans (congrArg _ (receiveBytes_behind_own hl hc hbusy hf hq hraw)), ?_⟩
    have hruns : s.stageRuns = true := by simp [State.stageRuns, hl]
    refine (noticeCompletion_mem_due ?_).mpr ⟨hq, by simp [LineInterface.idleFor], e, a, n, hc⟩
    exact hruns
  · rw [exec_noticeCompletion hc hq]
    refine ⟨fun hf => ?_, fun hf hr z v hb => ?_, fun hf hr z hb => ?_, fun hr root h g values hb => ?_⟩
    · rw [completeNotice_leaves hq (.inl hf)]
      refine ⟨?_, ?_, ?_, ?_⟩
      · rintro (⟨items, rfl⟩ | ⟨cause, rfl⟩ | ⟨z, v, rfl⟩ | ⟨page, content, rfl⟩) <;> rfl
      · rintro z rfl
        exact congrArg _ (looped_presence _ z _)
      · rintro d rfl hp
        exact congrArg _ (looped_call (s := s.noticeLeft rest) hp d)
      · rintro d p rfl hp hnext hnew
        exact congrArg _ (looped_join (s := s.noticeLeft rest) hp ⟨hnext, hnew⟩ d)
    · obtain ⟨queue, hperm, h⟩ := completeNotice_enters hq hf (by simp [hr]) ⟨s.station, body⟩
      subst hb
      rw [hr] at hperm
      exact ⟨queue, hperm, congrArg _ h⟩
    · obtain ⟨queue, hperm, h⟩ := completeNotice_enters hq hf (by simp [hr]) ⟨s.station, body⟩
      subst hb
      rw [hr] at hperm
      exact ⟨queue, hperm, congrArg _ h⟩
    · subst hb
      rw [completeNotice_leaves hq (.inr hr), looped_claim]
      let told : State := (s.noticeLeft rest).withElection
        { s.election with announced := some ⟨root, h.toNat, g⟩, claimSpacing := some (seconds 1) }
      have hkept := takeClaim_claimKept (s := told) rfl s.station ⟨root, h.toNat, g⟩ values
      obtain ⟨hphase, hstraps, -, hround, hsense, hsched, hlight, hclimate, hmemory, -⟩ :=
        takeClaim_frame (s := told) s.station ⟨root, h.toNat, g⟩ values
      refine ⟨_, rfl, hkept.announced, hkept.spacing, hkept.line, hkept.rng, ?_,
        hphase, hstraps, hround, hsense, hsched, hlight, hclimate, hkept.working, hmemory⟩
      rintro setpoint setback rfl
      exact hkept.roots

end Sys2Proof.Machine

/-! SUPPORT. The judgement read from the fields and from the bytes of a frame (R165 to R167). -/

namespace Sys2Proof.Machine

-- One thread, as above: a thread per theorem exceeds the memory limit of the check.
set_option Elab.async false

/-! ### Fields and their bytes (R164) -/

theorem stationBytes_toStation (a b c : Byte) : stationBytes (toStation a b c) = [a, b, c] := by
  have hab : (a ++ b ++ c).extractLsb' 8 8 = (a ++ b).extractLsb' 0 8 := BitVec.extractLsb'_append_eq_of_le (by decide)
  have ha : (a ++ b ++ c).extractLsb' 16 8 = (a ++ b).extractLsb' 8 8 := BitVec.extractLsb'_append_eq_of_le (by decide)
  have hc : (a ++ b ++ c).extractLsb' 0 8 = c := BitVec.extractLsb'_append_eq_right
  rw [BitVec.extractLsb'_append_eq_right] at hab
  rw [BitVec.extractLsb'_append_eq_left] at ha
  rw [stationBytes, toStation]
  exact congrArg₂ List.cons ha (congrArg₂ List.cons hab (congrArg₂ List.cons hc rfl))

theorem halfBytes_toHalf (a b : Byte) : halfBytes (toHalf a b) = [a, b] := by
  have ha : (a ++ b).extractLsb' 8 8 = a := BitVec.extractLsb'_append_eq_left
  have hb : (a ++ b).extractLsb' 0 8 = b := BitVec.extractLsb'_append_eq_right
  rw [halfBytes, toHalf]
  exact congrArg₂ List.cons ha (congrArg₂ List.cons hb rfl)

theorem toStation_stationBytes (i : Station) :
    toStation (i.extractLsb' 16 8) (i.extractLsb' 8 8) (i.extractLsb' 0 8) = i := by
  have hhigh : i.extractLsb' 16 8 ++ i.extractLsb' 8 8 = i.extractLsb' 8 16 :=
    BitVec.extractLsb'_append_extractLsb'_eq_extractLsb' rfl
  have hall : i.extractLsb' 8 16 ++ i.extractLsb' 0 8 = i.extractLsb' 0 24 :=
    BitVec.extractLsb'_append_extractLsb'_eq_extractLsb' rfl
  rw [toStation]
  exact (congrArg (· ++ i.extractLsb' 0 8) hhigh).trans (hall.trans BitVec.extractLsb'_eq_self)

/-! ### Bodies and their bytes (R165) -/

theorem itemBytes_length (items : List (Station × Half)) : (itemBytes items).length = 5 * items.length := by
  induction items with
  | nil => rfl
  | cons x rest ih => simp [itemBytes, stationBytes, halfBytes, ih]; omega

/-- What is read as TALLY items is their bytes. -/
theorem itemBytes_parseItems (bytes : List Byte) (items : List (Station × Half)) (h : parseItems bytes = some items) :
    itemBytes items = bytes := by
  induction bytes using parseItems.induct generalizing items with
  | case1 => simp_all [parseItems, itemBytes]
  | case2 a b c d e rest ih =>
    obtain ⟨read, hread, rfl⟩ := Option.map_eq_some_iff.mp h
    simp [itemBytes, stationBytes_toStation, halfBytes_toHalf, ih read hread]
  | case3 bytes hnil hcons => simp [parseItems] at h

/-- A body read is of the kind stated, and its bytes are those read. -/
theorem parseBody_some {kind : Byte} {bytes : List Byte} {b : Body} (h : parseBody kind bytes = some b) :
    kindCode b = kind ∧ bodyBytes b = bytes := by
  unfold parseBody at h
  split at h
  case h_3 k rest hkind =>
    split at h
    · rename_i hlen
      obtain ⟨items, hitems, rfl⟩ := Option.map_eq_some_iff.mp h
      have hbytes := itemBytes_parseItems _ _ hitems
      have hk : items.length = k.toNat := by
        have := itemBytes_length items
        rw [hbytes] at this
        omega
      exact ⟨(BitVec.eq_of_toNat_eq hkind).symm, by simp [bodyBytes, hk, hbytes]⟩
    · cases h
  case h_14 => cases h
  all_goals
    rename_i hkind
    cases h
    exact ⟨(BitVec.eq_of_toNat_eq hkind).symm, by simp [bodyBytes, stationBytes_toStation, halfBytes_toHalf]⟩

/-- The lengths of the bodies of fixed length (R165). -/
theorem bodyBytes_length_fixed (b : Body) :
    ∀ x ∈ [((0x11 : Byte), 1), (0x12, 2), (0x31, 1), (0x32, 1), (0x51, 3), (0x52, 5), (0x61, 4), (0x63, 6), (0x64, 3)],
      kindCode b = x.1 → (bodyBytes b).length = x.2 := by
  cases b <;> simp [kindCode, bodyBytes, stationBytes, halfBytes]

/-! ### The judgement (R166, R167) -/

theorem judgeFields_sender_zero (known : Bool) (body : Option Body) : judgeFields 0 known body = .counted := rfl

theorem judgeFields_not_counted {sender : Station} (h : sender ≠ 0) (known : Bool) (body : Option Body) :
    judgeFields sender known body ≠ .counted := by
  unfold judgeFields
  rw [if_neg h]
  split
  · simp
  · split
    · simp
    · split <;> simp

/-- What is of an unknown kind, of no body of its kind or out of range is discarded uncounted (R166 steps 7 and 8). -/
theorem judgeFields_uncounted {sender : Station} (h : sender ≠ 0) {known : Bool} {body : Option Body}
    (hbody : known = true → ∀ b ∈ body, bodyInRange sender b = false) : judgeFields sender known body = .uncounted := by
  unfold judgeFields
  rw [if_neg h]
  split
  · rfl
  · rename_i hknown
    split
    · rfl
    · rename_i b
      simp [hbody (by simpa using hknown) b rfl]

theorem judgeNotice_uncounted {n : Notice} (hfits : n.body.fits = true) (h : n.sender ≠ 0)
    (hbody : bodyInRange n.sender n.body = false) : judgeNotice n = .uncounted := by
  have hlen : (bodyBytes n.body).length ≤ 40 := by simpa [Body.fits] using hfits
  rw [judgeNotice, if_neg (Nat.not_lt.mpr hlen)]
  exact judgeFields_uncounted h fun _ b hb => by rwa [← Option.mem_some.mp hb]

theorem judgeNotice_sender_zero (body : Body) : judgeNotice ⟨0, body⟩ = .counted := by
  unfold judgeNotice
  split <;> rfl

/-- Of a frame whose length and check agree, steps 6 to 8 judge the fields (R166). -/
theorem judge_of_checked (kind : Byte) (i : Station) {body : List Byte} (hlen : body.length ≤ 40) :
    judge ⟨0xC3 :: (kind :: (stationBytes i ++ BitVec.ofNat 8 body.length :: body) ++
        halfBytes (crc16 (kind :: (stationBytes i ++ BitVec.ofNat 8 body.length :: body)))), false⟩ =
      judgeFields i (decide (kind ∈ kindCodes)) (parseBody kind body) := by
  have hn : (BitVec.ofNat 8 body.length).toNat = body.length := by
    rw [BitVec.toNat_ofNat]; omega
  simp [judge, stationBytes, halfBytes, hn, Nat.not_lt.mpr hlen, toStation_stationBytes]

/-! ### What is heard, and what is not (R22, R163) -/

theorem receive_sender_zero {s : State} (h : s.hears) (body : Body) :
    receive ⟨0, body⟩ s = applyVerdict .counted s.atNoticeEnd := by
  rw [receive_of_hears h, judgeNotice_sender_zero]

theorem receive_uncounted {s : State} (h : s.hears) {n : Notice} (hfits : n.body.fits = true) (hsender : n.sender ≠ 0)
    (hbody : bodyInRange n.sender n.body = false) : receive n s = s.atNoticeEnd := by
  rw [receive_of_hears h, judgeNotice_uncounted hfits hsender hbody]
  rfl

theorem receiveBytes_of_hears {s : State} (h : s.hears) {raw : Collected} (hraw : raw.fails = true) :
    receiveBytes raw s = if judge raw = .counted then applyVerdict .counted s.atNoticeEnd else s.atNoticeEnd := by
  obtain ⟨hframing, hsilent⟩ := h
  rw [receiveBytes, if_pos hframing, lineIdleThree_of_silent hsilent]
  cases hj : judge raw with
  | counted => rfl
  | uncounted => rfl
  | passes n => simp [Collected.fails, hj] at hraw

/-- Behind this node's notice the framer collects while the line is busy again (log entry 41). -/
theorem busy_of_tailDisturbed {s : State} (h : s.tailDisturbed = true) :
    s.line.framer = .ready ∧ s.line.level = .busy ∧ ∃ e a n, s.line.contention = .fixed e a (.sending n 0) := by
  simp only [State.tailDisturbed, Bool.and_eq_true, decide_eq_true_eq, Option.isSome_iff_exists] at h
  obtain ⟨⟨⟨⟨-, hf⟩, -⟩, n, hwhole⟩, hbusy⟩ := h
  obtain ⟨e, a, hc⟩ := (sentWhole_eq_some _ _).mp hwhole
  exact ⟨hf, hbusy, e, a, n, hc⟩

theorem framing_eq_false {s : State} (h : s.line.framer ≠ .ready ∨ s.line.sendingRequest.isSome = true) :
    s.framing = false := by
  rcases h with h | h <;> simp [State.framing, h]

theorem receiveBytes_not_taken {s : State} {raw : Collected} (hframing : s.framing = false)
    (h : s.line.framer ≠ .ready ∨ s.line.level ≠ .busy ∨ judge raw ≠ .counted ∨
      ∀ e a n, s.line.contention ≠ .fixed e a (.sending n 0)) : receiveBytes raw s = s := by
  rcases receiveBytes_cases raw s with ⟨-, -, e⟩ | ⟨-, htail, hraw, -⟩ | ⟨hf, -⟩
  · exact e
  · obtain ⟨hready, hbusy, e, a, n, hc⟩ := busy_of_tailDisturbed htail
    rcases h with h | h | h | h
    · exact absurd hready h
    · exact absurd hbusy h
    · exact absurd hraw h
    · exact absurd hc (h e a n)
  · simp [hframing] at hf

/-! ### The kinds with a range (R167) -/

theorem kindCode_call {b : Body} (h : kindCode b = 0x11) : ∃ d, b = .call d := by
  cases b <;> simp_all [kindCode]

theorem kindCode_join {b : Body} (h : kindCode b = 0x12) : ∃ d p, b = .join d p := by
  cases b <;> simp_all [kindCode]

theorem kindCode_tally {b : Body} (h : kindCode b = 0x21) : ∃ items, b = .tally items := by
  cases b <;> simp_all [kindCode]

theorem kindCode_claim {b : Body} (h : kindCode b = 0x41) : ∃ r hops g values, b = .claim r hops g values := by
  cases b <;> simp_all [kindCode]

theorem kindCode_answer {b : Body} (h : kindCode b = 0x62) : ∃ page content, b = .answer page content := by
  cases b <;> simp_all [kindCode]

theorem kindCode_set {b : Body} (h : kindCode b = 0x63) : ∃ t x v, b = .set t x v := by
  cases b <;> simp_all [kindCode]

theorem depthByte_eq_false {d : Byte} (h : ¬ depthAllowed d.toNat) : depthByte d = false := by
  rw [← depthByte_iff] at h
  simpa using h

theorem call_out_of_range {i : Station} {d : Byte} (h : ¬ depthAllowed d.toNat ∨ isTool i = true) :
    bodyInRange i (.call d) = false := by
  rcases h with h | h
  · simp [bodyInRange, depthByte_eq_false h]
  · simp [bodyInRange, h]

theorem join_out_of_range {i : Station} {d p : Byte}
    (h : ¬ depthAllowed d.toNat ∨ p.toNat < 2 ∨ 6 < p.toNat ∨ isTool i = true) : bodyInRange i (.join d p) = false := by
  rcases h with h | h | h | h
  · simp [bodyInRange, depthByte_eq_false h]
  · simp [bodyInRange, Nat.not_le.mpr h]
  · simp [bodyInRange, Nat.not_le.mpr h]
  · simp [bodyInRange, h]

theorem tally_out_of_range (i : Station) {items : List (Station × Half)} (h : items.length = 0 ∨ 6 < items.length) :
    bodyInRange i (.tally items) = false := by
  rcases h with h | h <;> simp [bodyInRange] <;> omega

theorem claim_out_of_range {i r : Station} {hops g : Byte} {values : Option (Half × Byte)}
    (h : 15 < hops.toNat ∨ (hops = 0 ∧ r ≠ i) ∨ (hops = 0 ∧ values = none) ∨ (hops ≠ 0 ∧ values ≠ none) ∨
      isTool i = true) : bodyInRange i (.claim r hops g values) = false := by
  rcases h with h | ⟨h, hr⟩ | ⟨h, hv⟩ | ⟨h, hv⟩ | h
  · simp [bodyInRange, Nat.not_le.mpr h]
  · simp [bodyInRange, h, hr]
  · simp [bodyInRange, h, hv]
  · obtain ⟨v, rfl⟩ := Option.ne_none_iff_exists'.mp hv
    have h0 : hops ≠ 0#8 := h
    simp [bodyInRange, h0]
  · simp [bodyInRange, h]

theorem answer_out_of_range (i : Station) (page : Byte) {content : List Byte} (h : 37 ≤ content.length) :
    bodyInRange i (.answer page content) = false := by
  simp [bodyInRange]; omega

theorem set_out_of_range (i t : Station) {x : Byte} (v : Half) (h : x.toNat < 1 ∨ 3 < x.toNat) :
    bodyInRange i (.set t x v) = false := by
  rcases h with h | h <;> simp [bodyInRange] <;> omega

/-! ### The frames of a kind out of range (R165 to R167) -/

section Frames

variable {i : Station} {body : List Byte} {b : Body}

/-- A TALLY frame out of range: no items, more than 6, or a length that is not that of its count. -/
theorem tally_frame_out_of_range (hlen : body.length ≤ 40) (hk : kindCode b = 0x21) (hb : bodyBytes b = body)
    (h : ∀ k ∈ body.head?, k = 0 ∨ 6 < k.toNat ∨ body.length ≠ 1 + 5 * k.toNat) : bodyInRange i b = false := by
  obtain ⟨items, rfl⟩ := kindCode_tally hk
  subst hb
  have hbytes : (bodyBytes (.tally items)).length = 5 * items.length + 1 := by simp [bodyBytes, itemBytes_length]
  have hcount : (BitVec.ofNat 8 items.length).toNat = items.length := by
    rw [BitVec.toNat_ofNat]; omega
  refine tally_out_of_range i ?_
  rcases h (BitVec.ofNat 8 items.length) rfl with h | h | h
  · left; rw [← hcount, h]; rfl
  · right; rwa [hcount] at h
  · omega

/-- A CLAIM frame out of range, by its hop count, its length, its root and its sender. -/
theorem claim_frame_out_of_range (hk : kindCode b = 0x41) (hb : bodyBytes b = body)
    (h : (body[3]? = some 0 ∧ body.length ≠ 8) ∨ (body[3]? ≠ some 0 ∧ body.length ≠ 5) ∨
      (∃ h ∈ body[3]?, 15 < h.toNat) ∨ (body[3]? = some 0 ∧ body.take 3 ≠ stationBytes i) ∨ isTool i = true) :
    bodyInRange i b = false := by
  obtain ⟨r, hops, g, values, rfl⟩ := kindCode_claim hk
  have hhops : body[3]? = some hops := by rw [← hb]; cases values <;> rfl
  have hroot : body.take 3 = stationBytes r := by rw [← hb]; cases values <;> rfl
  have hlen : body.length = if values = none then 5 else 8 := by rw [← hb]; cases values <;> rfl
  rw [hhops, hroot, hlen] at h
  refine claim_out_of_range ?_
  rcases h with ⟨h0, hl⟩ | ⟨h0, hl⟩ | ⟨x, hx, h15⟩ | ⟨h0, hr⟩ | ht
  · exact .inr (.inr (.inl ⟨Option.some.inj h0, by_contra fun hv => hl (if_neg hv)⟩))
  · exact .inr (.inr (.inr (.inl ⟨fun h => h0 (congrArg some h), fun hv => hl (if_pos hv)⟩)))
  · exact .inl (by rwa [Option.mem_some.mp hx])
  · exact .inr (.inl ⟨Option.some.inj h0, fun hri => hr (congrArg stationBytes hri)⟩)
  · exact .inr (.inr (.inr (.inr ht)))

theorem answer_frame_out_of_range (hk : kindCode b = 0x62) (hb : bodyBytes b = body)
    (h : body = [] ∨ 37 < body.length) : bodyInRange i b = false := by
  obtain ⟨page, content, rfl⟩ := kindCode_answer hk
  subst hb
  rcases h with h | h
  · cases h
  · exact answer_out_of_range i page (by simpa [bodyBytes] using h)

/-- A CALL or JOIN frame at a depth not allowed, or of a tool. -/
theorem callJoin_frame_out_of_range (hk : kindCode b = 0x11 ∨ kindCode b = 0x12) (hb : bodyBytes b = body)
    (h : (∀ d ∈ body.head?, ¬ depthAllowed d.toNat) ∨ isTool i = true) : bodyInRange i b = false := by
  rcases hk with hk | hk
  · obtain ⟨d, rfl⟩ := kindCode_call hk
    subst hb
    exact call_out_of_range (h.imp_left (· d rfl))
  · obtain ⟨d, p, rfl⟩ := kindCode_join hk
    subst hb
    rcases h with h | h
    · exact join_out_of_range (.inl (h d rfl))
    · exact join_out_of_range (.inr (.inr (.inr h)))

theorem join_frame_out_of_range (hk : kindCode b = 0x12) (hb : bodyBytes b = body)
    (h : ∀ p ∈ body[1]?, p.toNat < 2 ∨ 6 < p.toNat) : bodyInRange i b = false := by
  obtain ⟨d, p, rfl⟩ := kindCode_join hk
  subst hb
  rcases h p rfl with h | h
  · exact join_out_of_range (.inr (.inl h))
  · exact join_out_of_range (.inr (.inr (.inl h)))

theorem set_frame_out_of_range (hk : kindCode b = 0x63) (hb : bodyBytes b = body)
    (h : ∀ x ∈ body[3]?, x.toNat < 1 ∨ 3 < x.toNat) : bodyInRange i b = false := by
  obtain ⟨t, x, v, rfl⟩ := kindCode_set hk
  subst hb
  exact set_out_of_range i t v (h x rfl)

/-- A frame of its kind is discarded uncounted where every body it spells is out of range. -/
theorem frame_uncounted {kind : Byte} (hi : i ≠ 0)
    (h : ∀ b, kindCode b = kind → bodyBytes b = body → bodyInRange i b = false) :
    judgeFields i (decide (kind ∈ kindCodes)) (parseBody kind body) = .uncounted :=
  judgeFields_uncounted hi fun _ b hb => h b (parseBody_some hb).1 (parseBody_some hb).2

end Frames

/-- A frame whose length or check disagrees is counted (R166 steps 3 to 5). -/
theorem judge_check_fails (kind a b c n : Byte) (rest : List Byte)
    (h : 40 < n.toNat ∨ rest.length ≠ n.toNat + 2 ∨
      rest.drop n.toNat ≠ halfBytes (crc16 (kind :: a :: b :: c :: n :: rest.take n.toNat))) :
    judge ⟨0xC3 :: kind :: a :: b :: c :: n :: rest, false⟩ = .counted := by
  simp only [judge, Bool.false_eq_true, if_false, ne_eq, not_true_eq_false]
  split_ifs
  · rfl
  · tauto
  · rfl
  · rfl

/-- Frames with a fault, cut short or over-long, or with another start byte are counted (R166 steps 1 to 4). -/
theorem judge_broken {raw : Collected}
    (h : raw.fault = true ∨ raw.bytes.length < 8 ∨ 48 < raw.bytes.length ∨ raw.bytes.head? ≠ some 0xC3) :
    judge raw = .counted := by
  obtain ⟨bytes, fault⟩ := raw
  cases fault with
  | true => rfl
  | false =>
    rcases bytes with _ | ⟨start, _ | ⟨kind, _ | ⟨a, _ | ⟨b, _ | ⟨c, _ | ⟨n, rest⟩⟩⟩⟩⟩⟩
    case cons.cons.cons.cons.cons.cons =>
      by_cases hstart : start = 0xC3
      · subst hstart
        simp only [Bool.false_eq_true, false_or, List.length_cons, List.head?_cons, ne_eq, not_true_eq_false, or_false] at h
        exact judge_check_fails kind a b c n rest (by omega)
      · exact if_pos hstart
    all_goals rfl

/-! ### Commands out of range -/

/-- A command of sender 0 counts a bad notice. -/
theorem exec_sender_zero {s : State} (hears : s.hears) (d p h g x : Byte) (v : Half) (values : Option (Half × Byte))
    (i : Station) (items : List (Station × Half)) (content : List Byte) :
    ∀ c ∈ [Instr.call 0 d, .join 0 d p, .tally 0 items, .stir 0 x, .survey 0 x, .claim 0 i h g values, .presence 0 i,
        .warmth 0 i v, .ask 0 i p, .answer 0 p content, .set 0 i x v, .forget 0 i],
      exec c s = .next (applyVerdict .counted s.atNoticeEnd) := by
  simp only [List.forall_mem_cons, List.not_mem_nil, false_imp_iff, implies_true, and_true]
  and_intros <;> exact congrArg _ (receive_sender_zero hears _)

/-- Settles O46: the framer's states, the notices by their fields, and the frames by their bytes. -/
theorem framerTakesNoticesAndCountsBrokenOnes : Obligations.FramerTakesNoticesAndCountsBrokenOnes := by
  refine ⟨fun s => ⟨fun hl hf hsilent => ?_, fun h raw sender page content depth => ?_,
    fun hl hf hq hbusy e a n raw hc hraw => congrArg _ (receiveBytes_behind_own hl hc hbusy hf hq hraw),
    fun hears raw hraw => congrArg _ (receiveBytes_of_hears hears hraw),
    fun hears sender page content hsender hlen => ?_,
    fun hears d p h g x v values i j items content hitems hcontent =>
      ⟨exec_sender_zero hears d p h g x v values i items content, fun hj => ⟨?_, ?_, ?_, ?_, ?_, ?_⟩⟩⟩,
    fun raw => judge_broken, judge_check_fails, fun kind i body hlen => ?_⟩
  · simp only [exec, execFramerFirstIdle, hl, hf, and_self, if_true]
    exact congrArg _ (lineIdleThree_of_silent (s := s.withLine { s.line with framer := .ready }) hsilent)
  · have hframing := framing_eq_false h
    exact ⟨congrArg _ (receive_of_not_framing hframing _), congrArg _ (receive_of_not_framing hframing _),
      fun hraw => congrArg _ (receiveBytes_not_taken hframing hraw)⟩
  · exact congrArg _ (receive_of_inRange hears (n := ⟨sender, .answer page content⟩)
      (by simp [Body.fits, bodyBytes]; omega) ⟨hsender, by simpa [bodyInRange] using hlen⟩)
  · exact fun h => congrArg _ (receive_uncounted hears rfl hj (call_out_of_range h))
  · exact fun h => congrArg _ (receive_uncounted hears rfl hj (join_out_of_range h))
  · exact fun h => congrArg _ (receive_uncounted hears
      (by simp [Body.fits, bodyBytes, itemBytes_length]; omega) hj (tally_out_of_range j (by omega)))
  · exact fun h => congrArg _ (receive_uncounted hears (by cases values <;> rfl) hj (claim_out_of_range h))
  · exact fun h => congrArg _ (receive_uncounted hears
      (by simp [Body.fits, bodyBytes]; omega) hj (answer_out_of_range j p h))
  · exact fun h => congrArg _ (receive_uncounted hears rfl hj (set_out_of_range j i v h))
  · simp only [judge_of_checked kind i hlen]
    refine ⟨fun hi => by rw [hi, judgeFields_sender_zero], fun hi => ⟨judgeFields_not_counted hi _ _, fun hkind => ?_,
      fun x hx hkind hlength => frame_uncounted hi fun b hk hb => ?_, ?_, ?_, ?_, ?_, ?_, ?_⟩⟩
    · exact judgeFields_uncounted hi fun hknown => absurd (of_decide_eq_true hknown) hkind
    · exact absurd (hb ▸ bodyBytes_length_fixed b x hx (hk.trans hkind)) hlength
    · exact fun hkind h => frame_uncounted hi fun b hk hb => tally_frame_out_of_range hlen (hk.trans hkind) hb h
    · exact fun hkind h => frame_uncounted hi fun b hk hb => claim_frame_out_of_range (hk.trans hkind) hb h
    · exact fun hkind h => frame_uncounted hi fun b hk hb => answer_frame_out_of_range (hk.trans hkind) hb h
    · exact fun hkind h => frame_uncounted hi fun b hk hb => callJoin_frame_out_of_range (hk ▸ hkind) hb h
    · exact fun hkind h => frame_uncounted hi fun b hk hb => join_frame_out_of_range (hk.trans hkind) hb h
    · exact fun hkind h => frame_uncounted hi fun b hk hb => set_frame_out_of_range (hk.trans hkind) hb h

end Sys2Proof.Machine

/-! SUPPORT. What a reset leaves of a page cycle it cuts, and of the record (R190, R191, R195). -/

namespace Sys2Proof.Machine

-- One thread, as above: a thread per theorem exceeds the memory limit of the check.
set_option Elab.async false

/-! ### Bits raised (R191) -/

/-- Every byte of the second memory has at least the bits of the first at 1. -/
def Memory.RaisedTo (m m' : Memory) : Prop := ∀ a, m'.read a &&& m.read a = m.read a

theorem Memory.raisedTo_refl (m : Memory) : m.RaisedTo m := fun _ => BitVec.and_self

/-- A byte raised further stays raised. -/
theorem or_and_of_and {x y bits : Byte} (h : x &&& y = y) : (x ||| bits) &&& y = y := by
  ext i hi
  have hbit : (x[i] && y[i]) = y[i] := by rw [← BitVec.getElem_and, h]
  rw [BitVec.getElem_and, BitVec.getElem_or]
  cases hx : x[i] <;> simp_all

/-- A cut erase raises bits, and lowers none. -/
theorem Memory.raisedTo_cutErase {m : Memory} (hm : m.wf = true) {page : Nat} (hp : page ≤ 3) (free : Nat) :
    m.RaisedTo (m.cutErase page free) := by
  unfold Memory.cutErase
  split
  · exact m.raisedTo_refl
  · refine (List.foldlRecOn (motive := fun m' => Memory.wf m' = true ∧ m.RaisedTo m') _ _ ⟨hm, m.raisedTo_refl⟩ ?_).2
    rintro m' ⟨hm', hraised⟩ i hi
    have hi32 := List.mem_range.mp hi
    refine ⟨Memory.wf_write hm' (by omega), fun a => ?_⟩
    rw [Memory.read_write _ _ _ _ hm']
    split
    · rename_i ha
      rw [← ha]
      exact or_and_of_and (hraised a)
    · exact hraised a

theorem toNat_le_of_and {x y : Byte} (h : x &&& y = y) : y.toNat ≤ x.toNat := by
  rw [← h, BitVec.toNat_and]
  exact Nat.and_le_left

/-- A record with bits raised in its first 90 bytes and its sum as before is good no more (R191). -/
theorem Memory.goodRecord_of_raised {m m' : Memory} (hgood : m.goodRecord = true) (hraised : m.RaisedTo m') {a : Nat}
    (hlow : 32 ≤ a) (hhigh : a < 122) (ha : m'.read a ≠ m.read a) (hsum : m'.read 122 = m.read 122 ∧ m'.read 123 = m.read 123) :
    m'.goodRecord = false := by
  have hmore : byteSum (m.bytes 32 90) < byteSum (m'.bytes 32 90) := by
    unfold byteSum Memory.bytes
    rw [List.map_map, List.map_map]
    refine List.sum_lt_sum _ _ (fun i _ => toNat_le_of_and (hraised _)) ⟨a - 32, List.mem_range.mpr (by omega), ?_⟩
    have hat : 32 + (a - 32) = a := by omega
    simp only [Function.comp_apply, hat]
    exact lt_of_le_of_ne (toNat_le_of_and (hraised a)) fun h => ha (BitVec.eq_of_toNat_eq h).symm
  simp only [Memory.goodRecord, Bool.and_eq_true, decide_eq_true_eq] at hgood
  obtain ⟨-, hsame⟩ := hgood
  have hdiffers : byteSum (m'.bytes 32 90) ≠ (toHalf (m'.read 122) (m'.read 123)).toNat := by
    rw [hsum.1, hsum.2, ← hsame]
    exact hmore.ne'
  simp [Memory.goodRecord, hdiffers]

/-! ### The marker (R190) -/

/-- Without its marker a record is not good (R184). -/
theorem Memory.goodRecord_of_marker {m : Memory} (h : m.read 32 ≠ 0x5A) : m.goodRecord = false := by
  unfold Memory.goodRecord
  rw [decide_eq_false h]
  rfl

/-- Once page 1 is erased, and until the marker's byte is programmed, the marker reads FF; cut there, it is not 5A. -/
theorem Memory.read_cutMarkerPage_marker {m : Memory} (hm : m.wf = true) (he : m.read 32 = erasedByte)
    (values : List Byte) (free : Nat) : (m.cutMarkerPage values free).read 32 ≠ 0x5A := by
  unfold Memory.cutMarkerPage
  generalize Config.cutPlace free % 32 = place
  have habove : (m.programDown (32 + place + 1) (values.drop (place + 1))).read 32 = erasedByte := by
    rw [Memory.read_programDown_other _ _ _ _ (by omega), he]
  by_cases hplace : place = 0
  · subst hplace
    rw [Memory.read_program_same _ _ _ (Memory.wf_programDown _ _ hm) (by decide) (by decide), habove, if_pos rfl]
    exact fun h => cutMarker_ne free (BitVec.allOnes_and.symm.trans h)
  · rw [Memory.read_program_other _ _ _ _ (by omega), habove]
    decide

/-- The steps of a page cycle on pages 2 and 3 leave the marker. -/
theorem Memory.read_erasePage_marker (m : Memory) {page : Nat} (h : page ≠ 1) : (m.erasePage page).read 32 = m.read 32 :=
  Memory.read_erasePage_other m page 32 (Ne.symm h)

theorem Memory.read_cutErase_marker (m : Memory) {page : Nat} (h : page ≠ 1) (free : Nat) :
    (m.cutErase page free).read 32 = m.read 32 :=
  Memory.read_cutErase_other m page free 32 (Ne.symm h)

theorem Memory.read_programAll_marker (m : Memory) {a : Nat} (h : 32 < a) (values : List Byte) :
    (m.programAll a values).read 32 = m.read 32 :=
  Memory.read_programAll_other m a 32 values (.inl h)

theorem Memory.read_cutProgram_marker (m : Memory) {a : Nat} (h : 32 < a) (values : List Byte) (free : Nat) :
    (m.cutProgram a values free).read 32 = m.read 32 :=
  Memory.read_cutProgram_other m a 32 values free (.inl h)

theorem Memory.read_erasePage_one (m : Memory) : (m.erasePage 1).read 32 = erasedByte :=
  Memory.read_erasePage_same m 1 32 rfl (by decide)

/-- A save cut after its first erase leaves no marker (R190, R191). -/
theorem Memory.read_cutSave_marker {m : Memory} (hm : m.wf = true) (snapshot : List Byte) {elapsed : Nat}
    (he : eraseTicks ≤ elapsed) (free : Nat) : (m.cutSave snapshot elapsed free).read 32 ≠ 0x5A := by
  have hticks : eraseTicks = 128 := rfl
  have h2 := Memory.wf_erasePage 2 (Memory.wf_erasePage 1 hm)
  have h4 := Memory.wf_erasePage 3 (Memory.wf_programAll 64 ((snapshot.drop 32).take 32) h2)
  unfold Memory.cutSave
  dsimp only
  split_ifs
  · omega
  · omega
  · simp [Memory.read_cutErase_marker, Memory.read_erasePage_one]
  · simp [Memory.read_cutProgram_marker, Memory.read_erasePage_marker, Memory.read_erasePage_one]
  · simp [Memory.read_cutErase_marker, Memory.read_programAll_marker, Memory.read_erasePage_marker,
      Memory.read_erasePage_one]
  · simp [Memory.read_cutProgram_marker, Memory.read_programAll_marker, Memory.read_erasePage_marker,
      Memory.read_erasePage_one]
  · refine Memory.read_cutMarkerPage_marker (Memory.wf_programAll _ _ h4) ?_ _ _
    simp [Memory.read_programAll_marker, Memory.read_erasePage_marker, Memory.read_erasePage_one]

/-- A clear cut after its first erase leaves no marker (R190, R191). -/
theorem Memory.read_cutClear_marker (m : Memory) {elapsed : Nat} (he : eraseTicks ≤ elapsed) (free : Nat) :
    (m.cutClear elapsed free).read 32 ≠ 0x5A := by
  have hticks : eraseTicks = 128 := rfl
  unfold Memory.cutClear
  split_ifs
  · omega
  · omega
  · simp [Memory.read_cutErase_marker, Memory.read_erasePage_one]
  · simp [Memory.read_cutErase_marker, Memory.read_erasePage_marker, Memory.read_erasePage_one]

/-! ### The record after a reset (R190, R195) -/

/-- A page cycle cut within its first 8 ms has begun the erase of page 1, or nothing. -/
theorem ZoneMemory.afterReset_early {z : ZoneMemory} {elapsed : Nat} (he : elapsed < eraseTicks)
    (hengine : z.engine = .saving elapsed ∨ z.engine = .clearing elapsed) (free : Nat) :
    z.afterReset free = z.nv ∨ z.afterReset free = z.nv.cutErase 1 free := by
  rcases hengine with h | h <;> by_cases h0 : elapsed = 0 <;>
    simp [ZoneMemory.afterReset, h, Memory.cutSave, Memory.cutClear, h0, he]

/-- A page cycle cut later leaves no good record. -/
theorem ZoneMemory.goodRecord_afterReset_late {z : ZoneMemory} (hz : z.nv.wf = true) {elapsed : Nat}
    (he : eraseTicks ≤ elapsed) (hengine : z.engine = .saving elapsed ∨ z.engine = .clearing elapsed) (free : Nat) :
    (z.afterReset free).goodRecord = false := by
  refine Memory.goodRecord_of_marker ?_
  rcases hengine with h | h <;> simp only [ZoneMemory.afterReset, h]
  · exact Memory.read_cutSave_marker hz _ he free
  · exact Memory.read_cutClear_marker _ he free

/-- Of an early cut, page 1 alone may differ. -/
theorem ZoneMemory.read_afterReset_early {z : ZoneMemory} {elapsed : Nat} (he : elapsed < eraseTicks)
    (hengine : z.engine = .saving elapsed ∨ z.engine = .clearing elapsed) (free : Nat) {a : Nat} (ha : a < 32 ∨ 64 ≤ a) :
    (z.afterReset free).read a = z.nv.read a := by
  rcases z.afterReset_early he hengine free with h | h <;> rw [h]
  exact Memory.read_cutErase_other _ _ _ _ (by unfold pageOf; omega)

/-- Of an early cut, bits of page 1 are raised alone. -/
theorem ZoneMemory.raisedTo_afterReset_early {z : ZoneMemory} (hz : z.nv.wf = true) {elapsed : Nat}
    (he : elapsed < eraseTicks) (hengine : z.engine = .saving elapsed ∨ z.engine = .clearing elapsed) (free : Nat) :
    z.nv.RaisedTo (z.afterReset free) := by
  rcases z.afterReset_early he hengine free with h | h <;> rw [h]
  · exact z.nv.raisedTo_refl
  · exact Memory.raisedTo_cutErase hz (by decide) free

/-- Settles O5: the reset values field by field, and the record by the time of the cut. -/
theorem resetPutsEveryBlockInItsResetState : Obligations.ResetPutsEveryBlockInItsResetState := by
  refine fun s => ⟨afterReset s, rfl, rfl, rfl, ⟨rfl, rfl, rfl⟩, ?_⟩
  refine ⟨by and_intros <;> rfl, by and_intros <;> rfl, by and_intros <;> rfl, by and_intros <;> rfl,
    by and_intros <;> rfl, by and_intros <;> rfl, by and_intros <;> rfl, by and_intros <;> rfl,
    by and_intros <;> rfl, by and_intros <;> rfl, by and_intros <;> rfl, by and_intros <;> rfl,
    fun hidle => ?_, fun elapsed hwf he hengine => ?_, fun elapsed hwf he hengine => ?_⟩
  · simp [afterReset, ZoneMemory.afterReset, hidle]
  · exact ⟨ZoneMemory.goodRecord_afterReset_late hwf he hengine s.free,
      fun a ha => ZoneMemory.read_afterReset_page0 s.memory s.free a ha⟩
  · have hother : ∀ a, a < 32 ∨ 64 ≤ a → (s.memory.afterReset s.free).read a = s.memory.nv.read a :=
      fun a ha => ZoneMemory.read_afterReset_early he hengine s.free ha
    have hraised := ZoneMemory.raisedTo_afterReset_early hwf he hengine s.free
    refine ⟨hother, hraised, fun hgood ⟨a, ha⟩ => ?_, fun hsame => ?_⟩
    · have hpage : 32 ≤ a ∧ a < 64 := by
        by_contra hout
        exact ha (hother a (by omega))
      exact Memory.goodRecord_of_raised hgood hraised hpage.1 (by omega) ha
        ⟨hother 122 (by decide), hother 123 (by decide)⟩
    · exact Memory.eq_of_read (ZoneMemory.wf_afterReset _ _ hwf) hwf hsame

end Sys2Proof.Machine

/-! SUPPORT. The close of a round: the results and the scheduler's close in either order (R10, R38 to R42, R53, R61, R79). -/

namespace Sys2Proof.Machine

-- One thread, as above: a thread per theorem exceeds the memory limit of the check.
set_option Elab.async false

/-! ### What storing results leaves unchanged -/

/-- The counters of the rounds, the sensor health, the turn of the scheduler, the roots and the pages. -/
structure ResultsView where
  noisy : Nat
  clipped : Nat
  suspect : Nat
  sensor : Sensor
  state : SchedState
  probing : Bool
  working : Station
  roots : List (Option RootEntry)
  nv : Memory

/-- What neither a stored value nor an offer reaches. -/
def State.resultsView (s : State) : ResultsView :=
  ⟨s.line.counters.noisyRounds, s.line.counters.clippedRounds, s.table.suspect, s.table.sensor, s.sched.state,
    s.sched.probe.isSome, s.zone.working, s.election.roots, s.memory.nv⟩

theorem fixHead_resultsView (s : State) : (fixHead s).resultsView = s.resultsView := by
  simp [State.resultsView, fixHead_counters]

theorem displace_counters (l : LineInterface) (v : Queued) : (l.displace v).counters = l.counters := by
  unfold LineInterface.displace
  split <;> rfl

theorem enterOrDisplace_resultsView (r : Request) (s : State) : (enterOrDisplace r s).resultsView = s.resultsView := by
  rcases enterOrDisplace_cases r s with ⟨-, h⟩ | ⟨-, ⟨v, -, h⟩ | ⟨-, h⟩⟩ <;> rw [h]
  · rw [fixHead_resultsView]; rfl
  · rw [fixHead_resultsView]
    simp [State.resultsView, LineInterface.enter, displace_counters, State.count]
  · rfl

theorem offer_resultsView (r : Request) (s : State) : (offer r s).resultsView = s.resultsView := by
  rcases offer_cases r s with ⟨-, h⟩ | ⟨-, -, -, -, h⟩ | ⟨-, -, h⟩ | ⟨-, -, h⟩ <;> rw [h]
  · rfl
  · exact enterOrDisplace_resultsView r s

theorem enterBrisk_resultsView (duration : Nat) (s : State) : (enterBrisk duration s).resultsView = s.resultsView := by
  rcases enterBrisk_cases duration s with ⟨-, h⟩ | ⟨-, -, h⟩ | ⟨-, -, h⟩ <;> rw [h]
  · rfl
  · simp [State.resultsView, reloadForBrisk]
  · rfl

theorem announcementCheck_resultsView (s : State) : (announcementCheck s).resultsView = s.resultsView := by
  rcases announcementCheck_cases s with ⟨-, -, -, h⟩ | h <;> rw [h]
  exact offer_resultsView _ s

theorem rootDuty_resultsView (before after : Station) (s : State) :
    (rootDuty before after s).resultsView = s.resultsView := by
  rcases rootDuty_cases before after s with ⟨-, h⟩ | ⟨-, -, h⟩ | ⟨-, -, -, h⟩ | ⟨-, -, -, h⟩ <;> rw [h] <;> rfl

theorem takeDerived_resultsView (c : Candidate) (s : State) : (takeDerived c s).resultsView = s.resultsView := by
  unfold takeDerived
  rw [announcementCheck_resultsView, rootDuty_resultsView]
  split <;> rfl

theorem derive_resultsView (s : State) : (derive s).resultsView = s.resultsView := by
  rcases derive_cases s with ⟨-, h⟩ | ⟨-, -, -, h⟩ | ⟨-, -, h⟩ <;> rw [h]
  exact takeDerived_resultsView _ s

theorem handLinkEvent_resultsView (s : State) : (handLinkEvent s).resultsView = s.resultsView := by
  rw [handLinkEvent, derive_resultsView, memoryLinkEvent]
  split <;> rfl

theorem evaluateSlot_resultsView (i : Nat) (s : State) : (evaluateSlot i s).resultsView = s.resultsView := by
  rcases evaluateSlot_cases i s with h | ⟨e, link, -, -, -, h | h⟩ <;> rw [h]
  · rfl
  · rw [handLinkEvent_resultsView]; rfl

theorem takeShift_resultsView (s : State) : (takeShift s).resultsView = s.resultsView := by
  have told := enterBrisk_resultsView (seconds 600) s
  rcases takeShift_cases s with h | h <;> rw [h]
  · exact told
  · rw [offer_resultsView]
    exact told

theorem storeSeen_resultsView (i k : Nat) (s : State) : (storeSeen i k s).resultsView = s.resultsView := by
  unfold storeSeen
  split
  · rfl
  · dsimp only
    rw [evaluateSlot_resultsView]
    split
    · rw [takeShift_resultsView]; rfl
    · rfl

theorem admission_resultsView (i : Station) (half : MeasuredHalf) (v : Nat) (s : State) :
    (admission i half v s).resultsView = s.resultsView := by
  rcases admission_cases i half v s with h | ⟨slot, -, -, h⟩ | h <;> rw [h] <;> rfl

theorem takeResult_resultsView (s : State) (r : ProbeResult) : (takeResult s r).resultsView = s.resultsView := by
  unfold takeResult
  split
  · split
    · exact storeSeen_resultsView _ _ s
    · exact admission_resultsView _ _ _ s
  · rfl

/-! ### The functions of the close, spelled out -/

/-- The self-coupling of a round (R41). -/
def ownFinding (i : Station) (results : List ProbeResult) : Option Finding :=
  (results.find? (fun r => decide (r.station = i))).map (fun r => r.finding)

/-- A self-coupling of index 100 or more (R42). -/
def goodCoupling : Option Finding → Bool
  | some (.index k) => decide (100 ≤ k)
  | _ => false

/-- A state once a round's judgement is counted and its self-coupling taken (R38, R41, R42). -/
def State.judged (s : State) (self : Option Finding) (judgement : Judgement) : State :=
  { s with
    line := { s.line with
      counters := match judgement with
        | .valid => s.line.counters
        | .noisy => { s.line.counters with noisyRounds := bump s.line.counters.noisyRounds }
        | .clipped => { s.line.counters with clippedRounds := bump s.line.counters.clippedRounds } }
    sense := { s.sense with round := .idle, lastSelf := if self = none then s.sense.lastSelf else self }
    table :=
      if self = none then s.table
      else if goodCoupling self then { s.table with suspect := 0, sensor := .ok }
      else { s.table with
        suspect := min 3 (s.table.suspect + 1)
        sensor := if min 3 (s.table.suspect + 1) = 3 then .suspect else s.table.sensor } }

/-- A state once the other results are taken too, in prober-list order (R61). -/
def State.taken (s : State) (results : List ProbeResult) (judgement : Judgement) : State :=
  (results.filter (fun r => decide (r.station ≠ s.station))).foldl takeResult
    (s.judged (ownFinding s.station results) judgement)

theorem taken_resultsView (s : State) (results : List ProbeResult) (judgement : Judgement) :
    (s.taken results judgement).resultsView = (s.judged (ownFinding s.station results) judgement).resultsView :=
  foldl_view State.resultsView takeResult takeResult_resultsView _ _

/-- One result of another prober (R61). -/
theorem takeResult_eq : takeResult = fun s r =>
    match r.finding with
    | .index k =>
      if s.table.sensor = .suspect then s
      else match s.slotOf r.station with
        | some i => storeSeen i k s
        | none => admission r.station .seen k s
    | .noisy | .clipped => s := by
  funext s r
  unfold takeResult
  cases r.finding <;> cases s.table.sensor <;> rfl

/-- The TALLY item of one result (R79). -/
theorem tallyItem_eq (s : State) : s.tallyItem = fun r =>
    let value : Half := match r.finding with
      | .index k => BitVec.ofNat 16 k | .noisy => 0xF001 | .clipped => 0xF002
    let large : Bool := match r.finding with | .index k => decide (32 ≤ k) | .noisy | .clipped => false
    if r.station = s.station then (if large then some (r.station, value) else none)
    else if decide (s.table.sensor = .ok) && ((s.slotOf r.station).isSome || large)
      then some (r.station, value) else none := by
  funext r
  unfold State.tallyItem State.tableHolds
  by_cases hmine : r.station = s.station
  · cases r.finding <;> simp [hmine, itemValue]
  · cases r.finding <;> cases s.table.sensor <;> simp [hmine, itemValue]

theorem composeTally_eq (results : List ProbeResult) (s : State) :
    composeTally results s =
      if results.filterMap s.tallyItem = [] then s else offer (.tally (results.filterMap s.tallyItem)) s := by
  unfold composeTally
  cases results.filterMap s.tallyItem <;> simp

/-- The Sense Unit's part of a close: the judgement counted, the self-coupling kept (R38, R41). -/
def State.handed (s : State) (self : Option Finding) (judgement : Judgement) : State :=
  (s.count (fun c =>
    match judgement with
    | .valid => c
    | .clipped => { c with clippedRounds := bump c.clippedRounds }
    | .noisy => { c with noisyRounds := bump c.noisyRounds })).withSense
      { s.sense with round := .idle, lastSelf := if self.isSome then self else s.sense.lastSelf }

/-- The self-coupling taken by the sensor health after it (R42). -/
theorem takeSelfCoupling_handed (s : State) (f : Finding) (judgement : Judgement) :
    takeSelfCoupling f (s.handed (some f) judgement) = s.judged (some f) judgement := by
  unfold takeSelfCoupling State.judged
  cases f with
  | index k => by_cases hk : 100 ≤ k <;> cases judgement <;> simp [goodCoupling, hk] <;> rfl
  | clipped => cases judgement <;> rfl
  | noisy => cases judgement <;> rfl

theorem handed_none (s : State) (judgement : Judgement) : s.handed none judgement = s.judged none judgement := by
  cases judgement <;> rfl

theorem takeResults_handed (s : State) (results : List ProbeResult) (judgement : Judgement) :
    takeResults results (s.handed (ownFinding s.station results) judgement) = s.taken results judgement := by
  have hstation : ∀ self, (s.handed self judgement).station = s.station := fun _ => rfl
  unfold takeResults State.taken ownFinding
  simp only [hstation]
  cases results.find? (fun r => decide (r.station = s.station)) with
  | none => rw [Option.map_none, handed_none]
  | some r => exact congrArg (List.foldl takeResult · _) (takeSelfCoupling_handed s r.finding judgement)

/-- The results of a round: counted, taken, and told in a TALLY where the view is ordered (R38 to R42, R61, R79, R80). -/
theorem deliverResults_ready {s : State} {results : List ProbeResult} {judgement : Judgement}
    (hr : s.sense.round = .ready results judgement) :
    deliverResults s =
      if s.round.disordered = true ∨ results.filterMap (s.taken results judgement).tallyItem = [] then
        s.taken results judgement
      else offer (.tally (results.filterMap (s.taken results judgement).tallyItem)) (s.taken results judgement) := by
  have hdelivered : deliverResults s =
      if s.round.disordered then takeResults results (s.handed (ownFinding s.station results) judgement)
      else composeTally results (takeResults results (s.handed (ownFinding s.station results) judgement)) := by
    simp only [deliverResults, hr]
    rfl
  rw [hdelivered, takeResults_handed, composeTally_eq]
  cases s.round.disordered <;> simp

/-- Without results nothing is delivered. -/
theorem deliverResults_idle {s : State} (hr : s.sense.round = .idle) : deliverResults s = s := by
  have hsame : { s.sense with round := .idle } = s.sense := by rw [← hr]
  simp only [deliverResults, hr, hsame]
  rfl

theorem deliverResults_resultsView {s : State} {results : List ProbeResult} {judgement : Judgement}
    (hr : s.sense.round = .ready results judgement) :
    (deliverResults s).resultsView = (s.judged (ownFinding s.station results) judgement).resultsView := by
  rw [deliverResults_ready hr, ← taken_resultsView]
  split
  · rfl
  · exact offer_resultsView _ _

theorem taken_sense (s : State) (results : List ProbeResult) (judgement : Judgement) :
    (s.taken results judgement).sense = (s.judged (ownFinding s.station results) judgement).sense :=
  foldl_view State.sense takeResult (by simp) _ _

theorem deliverResults_sense {s : State} {results : List ProbeResult} {judgement : Judgement}
    (hr : s.sense.round = .ready results judgement) :
    (deliverResults s).sense = (s.judged (ownFinding s.station results) judgement).sense := by
  rw [deliverResults_ready hr, ← taken_sense]
  split
  · rfl
  · simp

/-- The scheduler takes the close of a round: RESTING from PROBING, a retry delay from CLOSE-WAIT (R53, R54). -/
theorem schedClose_eq (s : State) : schedClose s =
    match s.sched.state, s.sched.wait with
    | .probing, _ =>
      { s with
        rng := lfsrNext s.rng
        sched := { s.sched with
          state := .resting, wait := none, deadline := none, retry := none
          probe := some (match s.sched.mode with
            | .normal => seconds 240 + 160 * drawFrom (lfsrNext s.rng) 3000
            | .brisk => seconds 20 + 160 * drawFrom (lfsrNext s.rng) 250) } }
    | .wanting, some .closeWait =>
      { s with
        rng := lfsrNext s.rng
        sched := { s.sched with wait := some .delay, retry := some (drawFrom (lfsrNext s.rng) 15 * 128) } }
    | _, _ => s := by
  simp only [schedClose, restWithNewProbe_eq]
  rfl

/-! ### The close in either order -/

theorem eitherOrder_same {f g : State → State} {s : State} (h : f (g s) = g (f s)) : eitherOrder f g s = g (f s) := by
  simp [eitherOrder, pickFree, h]

theorem exec_roundClose {s : State} (hp : s.round.phase = .settle) :
    exec .roundClose s = .next (closeView (eitherOrder deliverResults schedClose s)) := by
  simp [exec, execRoundClose, hp, closeRound]

/-- The outcomes of a close: the scheduler's part before or after the results. -/
theorem exec_roundClose_cases {s : State} (hp : s.round.phase = .settle) :
    ∃ t, exec .roundClose s = .next t ∧
      ({ t with free := s.free } = { schedClose (deliverResults s) with round := State.reset.round } ∨
        { t with free := s.free } = { deliverResults (schedClose s) with round := State.reset.round }) := by
  refine ⟨_, exec_roundClose hp, ?_⟩
  obtain ⟨a, ha, h⟩ := eitherOrder_cases deliverResults schedClose s
  have hfree : a.free = s.free := by rcases ha with rfl | rfl <;> simp
  have hclosed : { closeView (eitherOrder deliverResults schedClose s) with free := s.free } =
      { a with round := State.reset.round } := by
    rw [← hfree]
    rcases h with h | h <;> rw [h] <;> rfl
  rcases ha with rfl | rfl
  · exact .inl hclosed
  · exact .inr hclosed

/-- The scheduler's close reaches nothing else. -/
theorem schedClose_resultsView (s : State) :
    (schedClose s).resultsView =
      { s.resultsView with state := (schedClose s).sched.state, probing := (schedClose s).sched.probe.isSome } := by
  simp [State.resultsView]

/-- A close from PROBING ends in RESTING, with a probe timer (R53). -/
theorem schedClose_probing {s : State} (h : s.sched.state = .probing) :
    (schedClose s).sched.state = .resting ∧ (schedClose s).sched.probe.isSome = true := by
  rcases schedClose_cases s with ⟨-, e⟩ | ⟨hw, -⟩ | ⟨hn, -⟩
  · rw [e, restWithNewProbe_eq]
    exact ⟨rfl, rfl⟩
  · rw [h] at hw; cases hw
  · exact absurd h hn

/-- What a close with results leaves, in either order: the round judged, and the turn ended. -/
structure ResultsClosed (s j t : State) : Prop where
  view : ∃ state probing, t.resultsView = { j.resultsView with state := state, probing := probing }
  sense : t.sense = j.sense
  turn : s.sched.state = .probing → t.sched.state = .resting ∧ t.sched.probe.isSome = true
  others : t.phase = s.phase ∧ t.straps = s.straps ∧ t.light = s.light ∧ t.climate = s.climate

theorem resultsClosed_before {s : State} {results : List ProbeResult} {judgement : Judgement}
    (hr : s.sense.round = .ready results judgement) :
    ResultsClosed s (s.judged (ownFinding s.station results) judgement) (schedClose (deliverResults s)) where
  view := ⟨_, _, by rw [schedClose_resultsView, deliverResults_resultsView hr]⟩
  sense := by simp [deliverResults_sense hr]
  turn := fun h => schedClose_probing ((congrArg ResultsView.state (deliverResults_resultsView hr)).trans h)
  others := by simp

theorem resultsClosed_after {s : State} {results : List ProbeResult} {judgement : Judgement}
    (hr : s.sense.round = .ready results judgement) :
    ResultsClosed s (s.judged (ownFinding s.station results) judgement) (deliverResults (schedClose s)) := by
  have hready : (schedClose s).sense.round = .ready results judgement := by simpa using hr
  have hview := deliverResults_resultsView hready
  have hstation : (schedClose s).station = s.station := by simp [State.station]
  rw [hstation] at hview
  refine ⟨⟨(schedClose s).sched.state, (schedClose s).sched.probe.isSome, hview.trans ?_⟩, ?_, fun h => ?_, by simp⟩
  · simp [State.resultsView, State.judged]
  · rw [deliverResults_sense hready, hstation]
    simp [State.judged]
  · have hturn := schedClose_probing h
    exact ⟨(congrArg ResultsView.state hview).trans hturn.1, (congrArg ResultsView.probing hview).trans hturn.2⟩

/-- The sensor health once a self-coupling is taken: cleared by a good one, else counted up to SUSPECT (R42). -/
theorem judged_health (s : State) (self : Option Finding) (judgement : Judgement) :
    match self with
    | none => (s.judged self judgement).table.suspect = s.table.suspect ∧
        (s.judged self judgement).table.sensor = s.table.sensor
    | some (.index k) =>
      if 100 ≤ k then (s.judged self judgement).table.suspect = 0 ∧ (s.judged self judgement).table.sensor = .ok
      else (s.judged self judgement).table.suspect = min 3 (s.table.suspect + 1) ∧
        (s.judged self judgement).table.sensor =
          if (s.judged self judgement).table.suspect = 3 then .suspect else s.table.sensor
    | some _ => (s.judged self judgement).table.suspect = min 3 (s.table.suspect + 1) ∧
        (s.judged self judgement).table.sensor =
          if (s.judged self judgement).table.suspect = 3 then .suspect else s.table.sensor := by
  rcases self with _ | k | _ | _
  · exact ⟨rfl, rfl⟩
  · by_cases hk : 100 ≤ k <;> simp [State.judged, goodCoupling, hk]
  · exact ⟨rfl, rfl⟩
  · exact ⟨rfl, rfl⟩

/-- Settles O17: without results the scheduler's close alone, and with results the two parts in either order. -/
theorem roundCloseDeliversTheResults : Obligations.RoundCloseDeliversTheResults := by
  intro s hp view
  refine ⟨fun hr => ?_, fun results judgement hr => ?_, fun results judgement hr => ?_⟩
  · have hsame : deliverResults (schedClose s) = schedClose (deliverResults s) := by
      rw [deliverResults_idle hr, deliverResults_idle (by simpa using hr)]
    rw [exec_roundClose hp, eitherOrder_same hsame, deliverResults_idle hr, schedClose_eq]
    cases s.sched.state with
    | resting => rfl
    | probing => rfl
    | wanting => cases s.sched.wait with
      | none => rfl
      | some wait => cases wait <;> rfl
  · intro self
    obtain ⟨t, ht, h⟩ := exec_roundClose_cases hp
    have hclosed : ResultsClosed s (s.judged self judgement) { t with free := s.free } := by
      rcases h with h | h <;> rw [h]
      · obtain ⟨hview, hsense, hturn, hothers⟩ := resultsClosed_before hr
        exact ⟨hview, hsense, hturn, hothers⟩
      · obtain ⟨hview, hsense, hturn, hothers⟩ := resultsClosed_after hr
        exact ⟨hview, hsense, hturn, hothers⟩
    have hround : t.round = view := by rcases h with h | h <;> exact congrArg State.round h
    obtain ⟨⟨state, probing, hview⟩, hsense, hturn, hphase, hstraps, hlight, hclimate⟩ := hclosed
    have hsuspect : t.table.suspect = (s.judged self judgement).table.suspect := congrArg ResultsView.suspect hview
    have hsensor : t.table.sensor = (s.judged self judgement).table.sensor := congrArg ResultsView.sensor hview
    refine ⟨t, ht, hround, hsense, (congrArg ResultsView.noisy hview).trans ?_,
      (congrArg ResultsView.clipped hview).trans ?_, ?_, hturn, hphase, hstraps, hlight, hclimate,
      congrArg ResultsView.working hview, congrArg ResultsView.roots hview, congrArg ResultsView.nv hview⟩
    · cases judgement <;> rfl
    · cases judgement <;> rfl
    · rw [hsuspect, hsensor]
      exact judged_health s self judgement
  · intro self good slotOf deliver close
    have hclose : ∀ x, close x = schedClose x := fun x => (schedClose_eq x).symm
    have hdeliver : ∀ x, x.sense.round = .ready results judgement → x.station = s.station →
        x.round.disordered = s.round.disordered → deliver x = deliverResults x := by
      intro x hx hstation hdisordered
      have hstored : (x.taken results judgement).station = s.station := by
        have hnv := congrArg ResultsView.nv (taken_resultsView x results judgement)
        exact (congrArg Memory.stationId hnv).trans hstation
      rw [deliverResults_ready hx, tallyItem_eq, hdisordered, hstored, State.taken, hstation, takeResult_eq]
      rfl
    obtain ⟨t, ht, h⟩ := exec_roundClose_cases hp
    refine ⟨t, ht, ?_⟩
    rw [hclose, hclose, hdeliver s hr rfl rfl,
      hdeliver (schedClose s) (by simpa using hr) (by simp [State.station]) (by simp)]
    exact h

end Sys2Proof.Machine

/-! SUPPORT. The converter and what its codes become: chip sums, findings and readings (R26 to R39, R144 to R152). -/

namespace Sys2Proof.Machine

-- One thread, as above: a thread per theorem exceeds the memory limit of the check.
set_option Elab.async false

/-! ### The finding of a record (R36 to R39) -/

/-- A response of 0 or less has index 0, and no index exceeds 4095 (R39). -/
theorem couplingIndex_eq (response : Int) (depth gain : Nat) :
    couplingIndex response depth gain =
      if response ≤ 0 then 0
      else if 4095 < response.toNat * 1000 / (depth * gain) then 4095
      else response.toNat * 1000 / (depth * gain) := by
  unfold couplingIndex
  split
  · rfl
  · split <;> omega

/-- A clipped or noisy round gives no index (R38). -/
theorem Sampling.findingOf_eq (d : Sampling) (gain : Nat) (r : ProberRecord) :
    d.findingOf gain r =
      if d.clip then .clipped
      else if 7 ≤ noiseOf d.nullAcc then .noisy
      else .index (couplingIndex (responseOf (d.accs.getD (r.position - 1) 0)) r.depth gain) := by
  unfold Sampling.findingOf judgementOf
  cases d.clip with
  | true => rfl
  | false => by_cases hnoise : 7 ≤ noiseOf d.nullAcc <;> simp [hnoise]

/-- Settles O15: the judgement, then the limits of the index. -/
theorem findingFollowsJudgementResponseAndIndex : Obligations.FindingFollowsJudgementResponseAndIndex := by
  intro d gain r _ _ response
  refine ⟨?_, Sampling.Sound.findingOf_inRange d gain r⟩
  rw [Sampling.findingOf_eq, couplingIndex_eq]
  simp only [apply_ite Finding.index]
  rfl

/-! ### Light conversions (R26, R31, R33, R34) -/

/-- Where no sample is taken CHIP_SAMPLE changes nothing. -/
theorem exec_chipSample_idle {s : State} (h : ¬ s.samplesNow = true) : exec .chipSample s = .next s := by
  simp only [exec, execChipSample, if_neg h]

/-- A sample starts its conversion at the tick of its place in the chip (R33). -/
theorem startLight_eq {s : State} (hfew : s.round.timer.nextSample < 4)
    (htick : s.round.timer.tick ≤ 40 + 16 * s.round.timer.nextSample) :
    startLight s = { s with
      round := { s.round with
        timer := { s.round.timer with
          tick := 40 + 16 * s.round.timer.nextSample, nextSample := s.round.timer.nextSample + 1 } }
      sense := { s.sense with lightConverting := true } } := by
  simp only [startLight, sampleTick_eq hfew, max_eq_right htick]
  rfl

/-- At the end of a light conversion a burst goes on outside CHIPS, and stays as it is in CHIPS (R26, R28). -/
theorem resumeBurst_of_free {s : State} (h : s.sense.lightConverting = false) :
    resumeBurst s = s.withSense { s.sense with
      burst := if s.round.phase = .chips then s.sense.burst
        else s.sense.burst.map (fun b => { b with converting := true }) } := by
  unfold resumeBurst State.servesTemperature
  by_cases hp : s.round.phase = .chips <;> simp [hp, h]

/-- Before the fourth code of a chip the codes gather (R33). -/
theorem Sampling.takeCode_gathers {d : Sampling} (code : AdcCode) (hchip : d.chip < 16) (hlen : d.codes.length < 3) :
    d.takeCode code = { d with codes := d.codes ++ [code], clip := d.clip || decide (code = 4095) } := by
  have hopen : (d.codes ++ [code]).length ≠ 4 := by simp only [List.length_append, List.length_singleton]; omega
  simp only [Sampling.takeCode, if_pos hchip, if_neg hopen]

/-- The fourth code forms the chip sum (R33). -/
theorem Sampling.takeCode_forms_sum {d : Sampling} (code : AdcCode) (hchip : d.chip < 16) (hlen : d.codes.length = 3) :
    d.takeCode code =
      Sampling.addChip { d with codes := d.codes ++ [code], clip := d.clip || decide (code = 4095) }
        ((d.codes.map BitVec.toNat).sum + code.toNat) := by
  have hfour : (d.codes ++ [code]).length = 4 := by simp [hlen]
  have hsum : ((d.codes ++ [code]).map BitVec.toNat).sum = (d.codes.map BitVec.toNat).sum + code.toNat := by simp
  simp only [Sampling.takeCode, if_pos hchip, if_pos hfour, hsum]

/-- A chip sum goes with the sign of its chip into the accumulators of the assigned codes alone (R33). -/
theorem Sampling.addChip_accs (d : Sampling) (sum : Nat) {i : Nat} (hi : i < d.accs.length) :
    (d.addChip sum).accs.getD i 0 =
      d.accs.getD i 0 + if ¬ d.assigned (i + 1) then 0 else signedSum (some (i + 1)) d.chip sum := by
  rw [List.getD_eq_getElem _ _ hi, List.getD_eq_getElem _ _ (by simpa [Sampling.addChip] using hi)]
  simp only [Sampling.addChip, List.getElem_mapIdx]
  cases d.assigned (i + 1) <;> simp

/-- Settles O18: when a sample starts, where its code goes, and what the fourth code forms. -/
theorem lightConversionsFormChipSums : Obligations.LightConversionsFormChipSums := by
  refine fun s code => ⟨fun hbusy => ?_, fun d hd hlight hburst hfew htick => ?_, fun hnone => ?_, fun hlight => ?_,
    fun d hchip hlen => ?_⟩
  · refine exec_chipSample_idle fun h => ?_
    obtain ⟨-, -, hlight, hburst⟩ := samplesNow_iff.mp h
    rcases hbusy with hbusy | ⟨b, hb, hbusy⟩
    · simp [hlight] at hbusy
    · simp [hburst b hb] at hbusy
  · have hsamples : s.samplesNow = true := samplesNow_iff.mpr ⟨⟨d, hd⟩, hfew, hlight, hburst⟩
    simp only [exec, execChipSample, if_pos hsamples, startLight_eq hfew htick]
  · refine exec_chipSample_idle fun h => ?_
    obtain ⟨⟨d, hd⟩, -⟩ := samplesNow_iff.mp h
    exact hnone d hd
  · simp only [exec, execLightConversionEnd, if_pos hlight, endLight]
    rw [resumeBurst_of_free rfl]
    rfl
  · rcases Nat.lt_or_eq_of_le (Nat.le_of_lt_succ hlen) with hfew | hthree
    · rw [Sampling.takeCode_gathers code hchip hfew]
      exact ⟨rfl, fun _ => ⟨rfl, rfl, rfl, rfl, rfl⟩, fun hthree => absurd hthree hfew.ne⟩
    · rw [Sampling.takeCode_forms_sum code hchip hthree]
      exact ⟨rfl, fun hfew => absurd hthree hfew.ne,
        fun _ => ⟨rfl, rfl, rfl, rfl, fun i hi => Sampling.addChip_accs _ _ hi⟩⟩

/-! ### The reading (R145) -/

theorem trimmed_eq (trim : Int) (c : AdcCode) : trimmed trim c = max 0 (min 4095 ((c.toNat : Int) + trim)) := by
  unfold trimmed clampInt
  split
  · omega
  · split <;> omega

/-- Eight codes, each limited to 0..4095, give a temperature within its range whatever the trim (R145). -/
theorem temperatureOf_inRange (trim : Int) {codes : List AdcCode} (h : codes.length = 8) :
    temperatureInRange (temperatureOf trim codes) := by
  have hcode : ∀ x ∈ codes.map (trimmed trim), 0 ≤ x ∧ x ≤ 4095 := by
    simp only [List.mem_map]
    rintro _ ⟨c, -, rfl⟩
    rw [trimmed_eq]
    omega
  have hlow : 0 ≤ (codes.map (trimmed trim)).sum := List.sum_nonneg fun x hx => (hcode x hx).1
  have hhigh : (codes.map (trimmed trim)).sum ≤ 8 * 4095 := by
    simpa [h] using List.sum_le_card_nsmul _ _ fun x hx => (hcode x hx).2
  unfold temperatureOf
  constructor <;> omega

theorem burstValid_iff (codes : List AdcCode) : burstValid codes = true ↔ ∀ c ∈ codes, c ≠ 0 ∧ c ≠ 4095 := by
  simp [burstValid]

/-- An invalid burst makes no reading (R145). -/
theorem takeBurst_invalid {codes : List AdcCode} (h : ∃ c ∈ codes, c = 0 ∨ c = 4095) (s : State) :
    takeBurst codes s = s := by
  have hinvalid : ¬ burstValid codes = true := by
    rw [burstValid_iff]
    obtain ⟨c, hc, hend⟩ := h
    exact fun hvalid => hend.elim (hvalid c hc).1 (hvalid c hc).2
  exact if_neg hinvalid

/-- A valid burst makes a reading with a hold of 180 s, which a terminal node also writes into its roster (R146, R152). -/
theorem takeBurst_valid {codes : List AdcCode} (h : ∀ c ∈ codes, c ≠ 0 ∧ c ≠ 4095) (s : State) :
    takeBurst codes s = { s with
      climate := { s.climate with
        reading := some (temperatureOf s.memory.nv.trim codes), readingHold := some (seconds 180),
        roster := if s.terminal then writeRoster s.station (temperatureOf s.memory.nv.trim codes) s.climate.roster
          else s.climate.roster } } := by
  simp only [takeBurst, if_pos ((burstValid_iff codes).mpr h)]
  cases s.terminal <;> rfl

/-! ### Temperature bursts (R27, R28, R144) -/

/-- A code of a burst that runs ends its conversion. -/
theorem exec_temperatureConversionEnd {s : State} {b : Burst} (hb : s.sense.burst = some b) (hrun : b.converting = true)
    (code : AdcCode) : exec (.temperatureConversionEnd code) s = .next (endTemperature b code s) := by
  simp only [exec, execTemperatureConversionEnd, hb, if_pos hrun]

/-- Up to the seventh code the burst goes on, held while the converter does not serve it (R27, R28). -/
theorem endTemperature_goes_on {b : Burst} (h : b.codes.length < 7) (code : AdcCode) (s : State) :
    endTemperature b code s =
      s.withSense { s.sense with burst := some ⟨b.codes ++ [code], s.servesTemperature⟩ } := by
  have hmore : (b.codes ++ [code]).length < 8 := by simp only [List.length_append, List.length_singleton]; omega
  exact if_pos hmore

/-- The eighth code ends the burst and hands all eight over (R27, R144). -/
theorem endTemperature_hands_over {b : Burst} (h : b.codes.length = 7) (code : AdcCode) (s : State) :
    endTemperature b code s = takeBurst (b.codes ++ [code]) (s.withSense { s.sense with burst := none }) := by
  have hfull : ¬ (b.codes ++ [code]).length < 8 := by simp [h]
  exact if_neg hfull

/-- Settles O19: the request for a burst, and its codes up to the seventh and at the eighth. -/
theorem temperatureBurstMakesAReading : Obligations.TemperatureBurstMakesAReading := by
  refine ⟨fun s htimer => ?_, fun s b code hb hrun => ?_⟩
  · simp only [exec, execSampleTimerExpiry, onExpiry, if_pos htimer]
    rcases requestBurst_cases (s.withClimate { s.climate with sampleTimer := some (seconds 10) }) with
      ⟨hnone, e⟩ | ⟨hsome, e⟩ <;> rw [e]
    · rw [if_pos (by simpa using hnone)]
      rfl
    · rw [if_neg (by simpa [Option.isSome_iff_ne_none] using hsome)]
      rfl
  · rw [exec_temperatureConversionEnd hb hrun]
    refine ⟨fun hmore => ?_, fun hlast hinvalid => ?_, fun hlast hvalid => ?_⟩
    · rw [endTemperature_goes_on hmore]
      rfl
    · rw [endTemperature_hands_over hlast, takeBurst_invalid hinvalid]
      rfl
    · intro sum t
      have ht : t = temperatureOf s.memory.nv.trim (b.codes ++ [code]) := by
        simp only [t, sum, temperatureOf, ← trimmed_eq]
      rw [ht, endTemperature_hands_over hlast, takeBurst_valid hvalid]
      exact ⟨temperatureOf_inRange _ (by simp [hlast]), rfl⟩

end Sys2Proof.Machine

/-! SUPPORT. The turns of the probe scheduler: the first probe timer, the queueing decision, BRISK, and the loss of an attempt
(R45 to R54, R56, R175, R176). -/

namespace Sys2Proof.Machine

-- One thread, as above: a thread per theorem exceeds the memory limit of the check.
set_option Elab.async false

/-! ### The start of listen-only (R45, R122, R144, R180, R195) -/

/-- The sampling period by the occupancy mode: pulse mode samples at every tick, disabled mode never (R122). -/
theorem samplePeriod_eq (s : State) :
    s.samplePeriod = if s.occMode = 3 then none else if s.occMode = 2 then some 1 else some (milliseconds 10) := by
  have hmode : s.occMode < 4 := Nat.mod_lt _ (by decide)
  unfold State.samplePeriod
  interval_cases s.occMode <;> rfl

/-- A burst asked for where none is there runs at once: the converter is free and the view not in CHIPS (R27, R28). -/
theorem requestBurst_of_free {s : State} (hburst : s.sense.burst = none) (hround : s.round.phase = .none)
    (hlight : s.sense.lightConverting = false) :
    requestBurst s = s.withSense { s.sense with burst := some ⟨[], true⟩ } := by
  have hserves : s.servesTemperature = true := by simp [State.servesTemperature, hround, hlight]
  simp only [requestBurst, hburst, hserves]

/-- Settles O8: the first burst finds the converter free. -/
theorem startOfListenOnlyStartsTheTimers : Obligations.StartOfListenOnlyStartsTheTimers := by
  intro s hphase hround hburst hlight
  have hexec : exec .startOfListenOnly s = .next (startListening s) := by
    simp only [exec, execStartOfListenOnly, if_pos hphase]
  rw [hexec, startListening, samplePeriod_eq, jitterTicks, Nat.mul_comm]
  exact congrArg Host.Outcome.next (requestBurst_of_free hburst hround hlight)

/-! ### The queueing decision (R51, R52, R54) -/

/-- A view in NONE, or in OPENING before its guard with a place left, admits a request (R52). -/
theorem admitsRequest_iff (r : RoundController) :
    r.admitsRequest = true ↔ r.phase = .none ∨
      (r.phase = .opening ∧ (r.timer.slot < 12 ∨ r.timer.guardPassed = false) ∧ r.probers.length < 6) := by
  unfold RoundController.admitsRequest
  cases r.phase <;> simp [beforeGuard_iff]

/-- A view in CHIPS or SETTLE, past its guard or with a full list admits none (R52). -/
theorem not_admitsRequest_of_bars {r : RoundController}
    (h : r.phase = .chips ∨ r.phase = .settle ∨
      (r.phase = .opening ∧ ((12 ≤ r.timer.slot ∧ r.timer.guardPassed = true) ∨ 6 ≤ r.probers.length))) :
    ¬ r.admitsRequest = true := by
  rw [admitsRequest_iff]
  rintro (hp | ⟨hp, hguard, hroom⟩)
  · simp [hp] at h
  · rcases h with hc | hc | ⟨-, ⟨hslot, hpassed⟩ | hfull⟩
    · simp [hp] at hc
    · simp [hp] at hc
    · rcases hguard with hguard | hguard
      · omega
      · simp [hpassed] at hguard
    · omega

/-- In listen-only the delay covers the time left of it (R52). -/
theorem queueingDecision_inListenOnly {s : State} (h : s.phase = .listenOnly) (x : Scheduler) :
    queueingDecision (s.withSched x) =
      s.withSched { x with wait := some .delay, retry := some (s.line.listenOnly.getD 0) } := by
  simp [queueingDecision, State.inListenOnly, h, State.withSched]

theorem queueingDecision_admitted {s : State} (h : s.phase ≠ .listenOnly) (ha : s.round.admitsRequest = true)
    (x : Scheduler) :
    queueingDecision (s.withSched x) =
      offer .callJoin (s.withSched { x with wait := some .queued, retry := none }) := by
  simp [queueingDecision, State.inListenOnly, h, ha, State.withSched]

theorem queueingDecision_barred {s : State} (h : s.phase ≠ .listenOnly) (ha : ¬ s.round.admitsRequest = true)
    (x : Scheduler) :
    queueingDecision (s.withSched x) = s.withSched { x with wait := some .closeWait, retry := none } := by
  simp [queueingDecision, State.inListenOnly, h, ha, State.withSched]

theorem exec_probeTimerExpiry {s : State} (hr : s.sched.state = .resting) (ht : s.sched.probe.isSome = true) :
    exec .probeTimerExpiry s =
      .next (queueingDecision
        (s.withSched { s.sched with state := .wanting, probe := none, deadline := some (seconds 60) })) := by
  simp only [exec, execProbeTimerExpiry, onExpiry, if_pos hr, if_pos ht, becomeWanting]

/-- Inside listen-only the delay does not expire (log entry 3). -/
theorem exec_retryDelayExpiry_inListenOnly {s : State} (h : s.phase = .listenOnly) :
    exec .retryDelayExpiry s = .next s := by
  simp [exec, execRetryDelayExpiry, State.inListenOnly, h]

theorem exec_retryDelayExpiry {s : State} (hw : s.sched.state = .wanting) (hd : s.sched.wait = some .delay)
    (ht : s.sched.retry.isSome = true) (h : s.phase ≠ .listenOnly) :
    exec .retryDelayExpiry s = .next (queueingDecision (s.withSched { s.sched with retry := none })) := by
  simp [exec, execRetryDelayExpiry, onExpiry, State.inListenOnly, hw, hd, ht, h]

/-- Settles O20: each expiry comes to the queueing decision, which the phase of start-up and the round view divide. -/
theorem queueingDecisionFollowsTheRoundView : Obligations.QueueingDecisionFollowsTheRoundView := by
  intro s admits bars wanting
  have hadmits : admits → s.round.admitsRequest = true := (admitsRequest_iff s.round).mpr
  have hbars : bars → ¬ s.round.admitsRequest = true := not_admitsRequest_of_bars
  refine ⟨fun hr ht => ?_, exec_retryDelayExpiry_inListenOnly, fun hw hd ht h => ?_⟩
  · rw [exec_probeTimerExpiry hr ht]
    refine ⟨fun h => ?_, fun h => ⟨fun ha => ?_, fun hb => ?_⟩⟩
    · rw [queueingDecision_inListenOnly h]; rfl
    · rw [queueingDecision_admitted h (hadmits ha)]; rfl
    · rw [queueingDecision_barred h (hbars hb)]; rfl
  · rw [exec_retryDelayExpiry hw hd ht h]
    refine ⟨fun ha => ?_, fun hb => ?_⟩
    · rw [queueingDecision_admitted h (hadmits ha)]; rfl
    · rw [queueingDecision_barred h (hbars hb)]; rfl

/-! ### BRISK (R47 to R50, R78, R199) -/

/-- A station is held in the table where an entry is its own (R58). -/
theorem tableHolds_iff (s : State) (i : Station) :
    s.tableHolds i = true ↔ ∃ e ∈ entriesOf s.table.slots, e.station = i := by
  simp [State.tableHolds, State.slotOf, findSlot, entriesOf, List.findIdx?_isSome, Option.any_eq_true]

/-- On entry in RESTING the shorter of the running length and a fresh one stands (R49). -/
theorem reloadForBrisk_eq (s : State) :
    reloadForBrisk s = { s with
      rng := lfsrNext s.rng
      sched := { s.sched with
        probe := s.sched.probe.map (fun left => min left (seconds 20 + 160 * drawFrom (lfsrNext s.rng) 250)) } } := by
  have hshorter (left fresh : Nat) : min left fresh = if fresh < left then fresh else left := by
    rw [min_comm, min_def_lt]
  simp only [reloadForBrisk, hshorter, jitterTicks, Nat.mul_comm 160]
  rfl

/-- A cause of BRISK extends it, or enters it; only in RESTING a length is drawn (R47 to R49). -/
theorem enterBrisk_eq (d : Nat) (s : State) :
    enterBrisk d s =
      match s.sched.mode, s.sched.state with
      | .brisk, _ => { s with sched := { s.sched with brisk := some (max (s.sched.brisk.getD 0) d) } }
      | .normal, .resting =>
        { s with
          rng := lfsrNext s.rng
          sched := { s.sched with
            mode := .brisk, brisk := some d
            probe := s.sched.probe.map (fun left => min left (seconds 20 + 160 * drawFrom (lfsrNext s.rng) 250)) } }
      | .normal, _ => { s with sched := { s.sched with mode := .brisk, brisk := some d } } := by
  rcases enterBrisk_cases d s with ⟨hm, e⟩ | ⟨hm, hr, e⟩ | ⟨hm, hr, e⟩ <;> rw [e]
  · rw [hm]; rfl
  · rw [reloadForBrisk_eq, hm, hr]; rfl
  · rw [hm]
    cases hs : s.sched.state with
    | resting => exact absurd hs hr
    | wanting | probing => rfl

/-- The minutes of a SURVEY, limited to 1..60, give at least 600 s (R47, R199). -/
theorem surveyMinutes_eq (x : Byte) :
    max (surveyMinutes x * 60) 600 =
      max 600 (60 * (if x.toNat = 0 then 1 else if 60 < x.toNat then 60 else x.toNat)) := by
  unfold surveyMinutes
  split_ifs <;> omega

theorem exec_stir_heard {s : State} (h : s.hears) {sender : Station} (h0 : sender ≠ 0) (x : Byte) :
    exec (.stir sender x) s = .next (takeStir sender s.atNoticeEnd) :=
  congrArg _ (receive_of_inRange h (n := ⟨sender, .stir x⟩) rfl ⟨h0, rfl⟩)

theorem exec_survey_heard {s : State} (h : s.hears) {sender : Station} (h0 : sender ≠ 0) (x : Byte) :
    exec (.survey sender x) s = .next (takeSurvey x s.atNoticeEnd) :=
  congrArg _ (receive_of_inRange h (n := ⟨sender, .survey x⟩) rfl ⟨h0, rfl⟩)

/-- Settles O21: both notices are causes of BRISK, a STIR only where its sender is held. -/
theorem stirAndSurveyEnterOrExtendBrisk : Obligations.StirAndSurveyEnterOrExtendBrisk := by
  refine ⟨fun sender x s h h0 => ?_, fun s htimer => ?_⟩
  · intro entered
    have hentered (d : Nat) : enterBrisk d s.atNoticeEnd = entered d := enterBrisk_eq d s.atNoticeEnd
    refine ⟨?_, ?_⟩
    · rw [exec_stir_heard h h0, takeStir, hentered]
      exact congrArg _ (if_congr (tableHolds_iff s.atNoticeEnd sender) rfl rfl)
    · rw [exec_survey_heard h h0, takeSurvey, surveyMinutes_eq, hentered]
  · simp only [exec, execBriskTimerExpiry, onExpiry, if_pos htimer]
    rfl

/-! ### LOSS (R54, R56, R148, R170, R175, R176, R179) -/

theorem exec_loss {s : State} {e a units : Nat} {n : Notice} {q : Queued} {rest : List Queued}
    (hc : s.line.contention = .fixed e a (.sending n units)) (hq : s.line.queue = q :: rest) :
    exec .loss s = .next (loseAttempt e a q.request s) := by
  simp only [exec, execLoss, hc, hq]

theorem dropHead_eq {l : LineInterface} {q : Queued} {rest : List Queued} (hq : l.queue = q :: rest) :
    l.dropHead = { l with queue := rest, contention := .unfixed, followOn := false } := by
  simp [LineInterface.dropHead, hq]

/-- Before the 16th attempt a request of an owner that still wants it is kept (R175, R176). -/
theorem loseAttempt_keeps {s : State} {a : Nat} {r : Request} (ha : a < 16) (hw : s.withdrawnAtLoss r = false) (e : Nat) :
    loseAttempt e a r s = s.withLine
      { s.line with contention := .fixed (min 7 (e + 1)) a .lost, followOn := false, level := .busy } := by
  simp [loseAttempt, Nat.not_le.mpr ha, hw]

/-- A request its owner gave up leaves at the loss (R56, R148, R179). -/
theorem loseAttempt_withdraws {s : State} {a : Nat} {r : Request} (ha : a < 16) (hw : s.withdrawnAtLoss r = true) (e : Nat) :
    loseAttempt e a r s = s.withLine { s.line.dropHead with level := .busy } := by
  simp [loseAttempt, Nat.not_le.mpr ha, hw]

theorem loseAttempt_drops {a : Nat} (ha : 16 ≤ a) (e : Nat) (r : Request) (s : State) :
    loseAttempt e a r s = dropRequest r s := if_pos ha

/-- The owners that can give a request up at the loss are the scheduler and the Climate Unit (R56, R148). -/
theorem withdrawnAtLoss_iff (s : State) (r : Request) :
    s.withdrawnAtLoss r = true ↔
      r = .callJoin ∧ ¬ (s.sched.state = .wanting ∧ s.sched.wait = some .queued) ∨
        r = .warmth ∧ s.climate.reading = none := by
  cases r <;> simp [State.withdrawnAtLoss, imp_iff_not_or]

/-- "Not admitted" outside a round starts a retry delay of 0..15 slots (R54). -/
theorem schedNotAdmitted_outside_round {s : State} (hp : s.round.phase = .none) :
    schedNotAdmitted s =
      if s.sched.state = .wanting ∧ s.sched.wait = some .queued then startRetryDelay s else s := by
  unfold schedNotAdmitted
  split
  · rename_i hw hq
    rw [if_pos ⟨hw, hq⟩, hp]
  · rename_i h
    rw [if_neg fun ⟨hw, hq⟩ => h hw hq]

/-- A scheduler that waits with a request queued is told: outside a round it starts a retry delay, in one it waits for the
close (R54). -/
theorem schedNotAdmitted_eq (s : State) :
    schedNotAdmitted s =
      if s.sched.state = .wanting ∧ s.sched.wait = some .queued then
        if s.round.phase = .none then
          { s with
            rng := lfsrNext s.rng
            sched := { s.sched with wait := some .delay, retry := some (drawFrom (lfsrNext s.rng) 15 * 128) } }
        else { s with sched := { s.sched with wait := some .closeWait } }
      else s := by
  by_cases hp : s.round.phase = .none
  · rw [schedNotAdmitted_outside_round hp, if_pos hp]
    rfl
  · rw [schedNotAdmitted_in_round hp, if_neg hp]
    split <;> rfl

/-- The state once the first request is dropped at its 16th attempt, before its follow-on or its owner is served (R176). -/
def State.requestDropped (s : State) (rest : List Queued) : State :=
  { s with
    line := { s.line with
      queue := rest, contention := .unfixed, followOn := false, level := .busy
      counters := { s.line.counters with lineDrops := bump s.line.counters.lineDrops } } }

/-- Without a follow-on the request leaves, and the scheduler is told of a CALL/JOIN (R54, R176). -/
theorem dropRequest_leaves {s : State} {q : Queued} {rest : List Queued} (hq : s.line.queue = q :: rest)
    (hf : s.line.followOn = false) (r : Request) :
    dropRequest r s =
      if r = .callJoin then schedNotAdmitted (s.requestDropped rest) else s.requestDropped rest := by
  simp only [dropRequest, hf, LineInterface.followOnEnters, Bool.false_eq_true, if_false, dropHead_eq hq]
  rfl

/-- A follow-on enters the freed slot at its place by rank (R170). -/
theorem dropRequest_enters {s : State} {q : Queued} {rest : List Queued} (hq : s.line.queue = q :: rest)
    (hf : s.line.followOn = true) {r : Request} (hr : r ≠ .callJoin) :
    ∃ queue, queue.Perm (⟨r, s.line.entries⟩ :: rest) ∧
      dropRequest r s =
        { s with line := { (s.requestDropped rest).line with queue := queue, entries := s.line.entries + 1 } } := by
  obtain ⟨hperm, henter⟩ := enter_spec s.line.dropHead r
  rw [dropHead_eq hq] at hperm
  refine ⟨_, hperm, ?_⟩
  simp only [dropRequest, hf, LineInterface.followOnEnters, if_true, if_neg hr]
  rw [henter, dropHead_eq hq]
  rfl

/-- Settles O44, by the number of the attempt, the owner and the follow-on. -/
theorem lossRaisesTheExponentOrDropsTheHead : Obligations.LossRaisesTheExponentOrDropsTheHead := by
  intro s e a units n q rest hc hq dropped counted
  rw [exec_loss hc hq]
  refine ⟨fun ha hcall hwarmth => ?_, fun ha hgiven => ?_, fun ha hf hr => ?_, fun ha hf hr => ?_, fun ha hf hr => ?_⟩
  · have hwanted : s.withdrawnAtLoss q.request = false := by
      rw [← Bool.not_eq_true, withdrawnAtLoss_iff]
      rintro (⟨hr, hnot⟩ | ⟨hr, hnone⟩)
      · exact hnot (hcall hr)
      · simpa [hnone] using hwarmth hr
    rw [loseAttempt_keeps ha hwanted]
    rfl
  · have hgivenUp : s.withdrawnAtLoss q.request = true :=
      (withdrawnAtLoss_iff s q.request).mpr (hgiven.imp_left fun ⟨hr, hwait⟩ => ⟨hr, fun ⟨_, hqueued⟩ => hwait hqueued⟩)
    rw [loseAttempt_withdraws ha hgivenUp, dropHead_eq hq]
    rfl
  · rw [loseAttempt_drops ha, dropRequest_leaves hq hf, if_neg hr]
    rfl
  · rw [loseAttempt_drops ha, dropRequest_leaves hq hf, if_pos hr, schedNotAdmitted_eq]
    rfl
  · rw [loseAttempt_drops ha]
    obtain ⟨queue, hperm, h⟩ := dropRequest_enters hq hf hr
    exact ⟨queue, hperm, congrArg _ h⟩

end Sys2Proof.Machine

/-! SUPPORT. The slots of the tables: the entries slot by slot, the searches over slots, and slots changed one after another
(R58, R69, R70, R72, R82 to R86). -/

namespace Sys2Proof.Machine

-- One thread, as above: a thread per theorem exceeds the memory limit of the check.
set_option Elab.async false

/-! ### Entries slot by slot -/

section Slots

variable {α β κ : Type} {slots : List (Option α)}

theorem slotAt_of_lt {i : Nat} (hi : i < slots.length) : slotAt slots i = slots[i] := by simp [slotAt, hi]

theorem slotAt_of_le {i : Nat} (hi : slots.length ≤ i) : slotAt slots i = none := by simp [slotAt, hi]

/-- A slot that holds an entry is a slot of the table. -/
theorem lt_of_slotAt {i : Nat} {e : α} (h : slotAt slots i = some e) : i < slots.length := by
  by_contra hi
  simp [slotAt_of_le (Nat.le_of_not_lt hi)] at h

theorem mem_entriesOf {e : α} : e ∈ entriesOf slots ↔ ∃ i, slotAt slots i = some e := by
  have hmem : e ∈ entriesOf slots ↔ some e ∈ slots := by simp [entriesOf]
  rw [hmem, List.mem_iff_getElem]
  constructor
  · rintro ⟨i, hi, h⟩
    exact ⟨i, by rw [slotAt_of_lt hi, h]⟩
  · rintro ⟨i, h⟩
    have hi := lt_of_slotAt h
    exact ⟨i, hi, by rw [← slotAt_of_lt hi, h]⟩

theorem slots_ext {other : List (Option α)} (hlen : slots.length = other.length)
    (h : ∀ i, slotAt slots i = slotAt other i) : slots = other :=
  List.ext_getElem hlen fun i hi hi' => by rw [← slotAt_of_lt hi, ← slotAt_of_lt hi', h]

/-- Entries have distinct keys where no two slots hold one key. -/
theorem nodup_entries_iff {key : α → β} : ((entriesOf slots).map key).Nodup ↔
    ∀ i j e f, slotAt slots i = some e → slotAt slots j = some f → key e = key f → i = j := by
  have hpairs : ((entriesOf slots).map key).Nodup ↔ ∀ i j (hi : i < slots.length) (hj : j < slots.length), i < j →
      ∀ e, slots[i] = some e → ∀ f, slots[j] = some f → key e ≠ key f := by
    rw [List.Nodup, entriesOf, List.pairwise_map, List.pairwise_filterMap, List.pairwise_iff_getElem]
    rfl
  rw [hpairs]
  constructor
  · intro h i j e f he hf hkey
    have hi := lt_of_slotAt he
    have hj := lt_of_slotAt hf
    rw [slotAt_of_lt hi] at he
    rw [slotAt_of_lt hj] at hf
    rcases Nat.lt_trichotomy i j with hij | hij | hij
    · exact absurd hkey (h i j hi hj hij e he f hf)
    · exact hij
    · exact absurd hkey.symm (h j i hj hi hij f hf e he)
  · intro h i j hi hj hij e he f hf hkey
    rw [← slotAt_of_lt hi] at he
    rw [← slotAt_of_lt hj] at hf
    exact Nat.ne_of_lt hij (h i j e f he hf hkey)

/-- Of distinct keys, a key belongs to one slot. -/
theorem slot_unique {key : α → β} (h : ((entriesOf slots).map key).Nodup) {i j : Nat} {e f : α}
    (he : slotAt slots i = some e) (hf : slotAt slots j = some f) (hkey : key e = key f) : i = j :=
  nodup_entries_iff.mp h i j e f he hf hkey

theorem slotAt_map (g : α → β) (i : Nat) : slotAt (slots.map (Option.map g)) i = (slotAt slots i).map g := by
  simp only [slotAt, List.getElem?_map]
  cases slots[i]? <;> rfl

/-- A slot given what it holds stays as it is. -/
theorem set_slotAt (slots : List (Option α)) (i : Nat) : slots.set i (slotAt slots i) = slots := by
  by_cases hi : i < slots.length
  · rw [slotAt_of_lt hi, List.set_getElem_self]
  · rw [List.set_eq_of_length_le (Nat.le_of_not_lt hi)]

/-! ### Searches -/

/-- The slot found is the first that holds an entry of the kind. -/
theorem findSlot_eq_some {test : α → Bool} {i : Nat} {e : α} (he : slotAt slots i = some e) (ht : test e = true)
    (hfirst : ∀ n x, n < i → slotAt slots n = some x → test x = false) : findSlot slots test = some i := by
  have hi := lt_of_slotAt he
  rw [slotAt_of_lt hi] at he
  refine List.findIdx?_eq_some_iff_getElem.mpr ⟨hi, by simpa [he] using ht, fun n hn => ?_⟩
  cases hx : slots[n] with
  | none => simp
  | some x => simpa using hfirst n x hn (by rw [slotAt_of_lt (hn.trans hi), hx])

theorem findSlot_eq_none_iff {test : α → Bool} :
    findSlot slots test = none ↔ ∀ e ∈ entriesOf slots, test e = false := by
  refine ⟨fun h e he => ?_, fun h => ?_⟩
  · obtain ⟨i, hi⟩ := mem_entriesOf.mp he
    exact findSlot_none h i e hi
  · cases hf : findSlot slots test with
    | none => rfl
    | some i =>
      obtain ⟨-, ⟨e, he, ht⟩, -⟩ := findSlot_some hf
      rw [h e (mem_entriesOf.mpr ⟨i, he⟩)] at ht
      cases ht

/-- The lowest empty slot. -/
theorem emptySlot_eq_some_iff {i : Nat} : emptySlot slots = some i ↔
    i < slots.length ∧ slotAt slots i = none ∧ ∀ n, n < i → slotAt slots n ≠ none := by
  unfold emptySlot
  rw [List.findIdx?_eq_some_iff_getElem]
  constructor
  · rintro ⟨hi, hnone, hfirst⟩
    refine ⟨hi, by simpa [slotAt_of_lt hi] using hnone, fun n hn => ?_⟩
    simpa [slotAt_of_lt (hn.trans hi)] using hfirst n hn
  · rintro ⟨hi, hnone, hfirst⟩
    refine ⟨hi, by simpa [slotAt_of_lt hi] using hnone, fun n hn => ?_⟩
    simpa [slotAt_of_lt (hn.trans hi)] using hfirst n hn

theorem emptySlot_eq_none_iff : emptySlot slots = none ↔ ∀ n, n < slots.length → slotAt slots n ≠ none := by
  unfold emptySlot
  rw [List.findIdx?_eq_none_iff]
  constructor
  · intro h n hn
    simpa [slotAt_of_lt hn, Option.isSome_iff_ne_none] using h _ (List.getElem_mem hn)
  · intro h x hx
    obtain ⟨n, hn, rfl⟩ := List.mem_iff_getElem.mp hx
    simpa [slotAt_of_lt hn, Option.isSome_iff_ne_none] using h n hn

/-! ### The best of the slots that have a value (R70, R85) -/

/-- One slot more: it is the best so far where it has a value and none has been found, or a better one. -/
def betterSlot (value : Nat → Option κ) (better : κ → κ → Bool) (best : Option (Nat × κ)) (i : Nat) : Option (Nat × κ) :=
  match value i, best with
  | none, _ => best
  | some v, none => some (i, v)
  | some v, some (j, w) => if better v w then some (i, v) else some (j, w)

/-- The best of the first `n` slots. -/
def bestSlot (value : Nat → Option κ) (better : κ → κ → Bool) (n : Nat) : Option (Nat × κ) :=
  (List.range n).foldl (betterSlot value better) none

theorem bestSlot_succ (value : Nat → Option κ) (better : κ → κ → Bool) (n : Nat) :
    bestSlot value better (n + 1) = betterSlot value better (bestSlot value better n) n := by
  simp [bestSlot, List.range_succ]

/-- The best so far is a slot that has its value. -/
theorem bestSlot_spec {value : Nat → Option κ} {better : κ → κ → Bool} {n j : Nat} {w : κ}
    (h : bestSlot value better n = some (j, w)) : j < n ∧ value j = some w := by
  induction n with
  | zero => simp [bestSlot] at h
  | succ n ih =>
    rw [bestSlot_succ] at h
    unfold betterSlot at h
    split at h
    · obtain ⟨hj, hw⟩ := ih h
      exact ⟨hj.trans (Nat.lt_succ_self _), hw⟩
    · rename_i hv _
      cases h
      exact ⟨(Nat.lt_succ_self _), hv⟩
    · rename_i hv hb
      split at h
      · cases h
        exact ⟨(Nat.lt_succ_self _), hv⟩
      · cases h
        obtain ⟨hj, hw⟩ := ih hb
        exact ⟨hj.trans (Nat.lt_succ_self _), hw⟩

/-- The best slot: better than every slot before it, and none better than it. -/
theorem bestSlot_eq_some {value : Nat → Option κ} {better : κ → κ → Bool} {n i : Nat} {v : κ} (hi : i < n)
    (hv : value i = some v) (hbefore : ∀ m w, m < i → value m = some w → better v w = true)
    (hbest : ∀ m w, value m = some w → better w v = false) : bestSlot value better n = some (i, v) := by
  induction n with
  | zero => cases hi
  | succ n ih =>
    rw [bestSlot_succ]
    rcases Nat.lt_succ_iff_lt_or_eq.mp hi with hlt | rfl
    · rw [ih hlt]
      cases hw : value n with
      | none => simp [betterSlot, hw]
      | some w => simp [betterSlot, hw, hbest n w hw]
    · cases hb : bestSlot value better i with
      | none => simp [betterSlot, hv]
      | some best =>
        obtain ⟨hj, hw⟩ := bestSlot_spec hb
        simp [betterSlot, hv, hbefore _ _ hj hw]

theorem bestSlot_eq_none {value : Nat → Option κ} {better : κ → κ → Bool} {n : Nat} (h : ∀ i, value i = none) :
    bestSlot value better n = none := by
  refine Option.eq_none_iff_forall_ne_some.mpr fun ⟨i, v⟩ hb => ?_
  obtain ⟨-, hv⟩ := bestSlot_spec hb
  simp [h] at hv

/-! ### Slots changed one after another (R72, R82) -/

/-- The first `n` slots changed in order, each by what it holds. -/
def changeSlots (g : Option α → Option α) (n : Nat) (slots : List (Option α)) : List (Option α) :=
  (List.range n).foldl (fun l i => l.set i (g (slotAt l i))) slots

theorem changeSlots_succ (g : Option α → Option α) (n : Nat) (slots : List (Option α)) :
    changeSlots g (n + 1) slots = (changeSlots g n slots).set n (g (slotAt (changeSlots g n slots) n)) := by
  simp [changeSlots, List.range_succ]

@[simp] theorem changeSlots_length (g : Option α → Option α) (n : Nat) (slots : List (Option α)) :
    (changeSlots g n slots).length = slots.length := by
  induction n with
  | zero => rfl
  | succ n ih => rw [changeSlots_succ, List.length_set, ih]

/-- Each slot changes by itself, where an empty slot stays empty. -/
theorem slotAt_changeSlots {g : Option α → Option α} (hg : g none = none) (n j : Nat) (slots : List (Option α)) :
    slotAt (changeSlots g n slots) j = if j < n then g (slotAt slots j) else slotAt slots j := by
  induction n with
  | zero => rfl
  | succ n ih =>
    rw [changeSlots_succ]
    by_cases hn : n < slots.length
    · rw [slotAt_set _ _ _ _ (by simpa using hn)]
      by_cases hj : j = n
      · subst hj
        simp [ih]
      · have hlt : j < n + 1 ↔ j < n := by omega
        simp [hj, ih, hlt]
    · rw [List.set_eq_of_length_le (by simpa using Nat.le_of_not_lt hn), ih]
      by_cases hj : j < n
      · simp [hj, Nat.lt_succ_of_lt hj]
      · have hnone : slotAt slots j = none := slotAt_of_le ((Nat.le_of_not_lt hn).trans (Nat.le_of_not_lt hj))
        simp [hj, hnone, hg]

end Slots

end Sys2Proof.Machine

/-! SUPPORT. The Neighbour Table's link moves and admission (R65, R66, R69 to R71). -/

namespace Sys2Proof.Machine

-- One thread, as above: a thread per theorem exceeds the memory limit of the check.
set_option Elab.async false

/-! ### The link state machine (R65, R66) -/

theorem evaluateLink_absent (j l : Nat) (link : Link) : evaluateLink j l link none = (link, .nothing) := rfl

/-- A pair value at the join threshold or above lifts a link one state. -/
theorem evaluateLink_joins {j p : Nat} (h : j ≤ p) (l : Nat) (link : Link) :
    evaluateLink j l link (some p) =
      match link with
      | .apart => (.rising, .nothing)
      | .rising => (.linked, .up)
      | .linked | .falling | .resumed => (.linked, .nothing) := by
  cases link <;> simp [evaluateLink, h]

/-- Between the thresholds a linked entry is held linked, and any other is let go. -/
theorem evaluateLink_between {j l p : Nat} (hl : l ≤ p) (hj : p < j) (link : Link) :
    evaluateLink j l link (some p) = (if link.isLinked then .linked else .apart, .nothing) := by
  cases link <;> simp [evaluateLink, Nat.not_le.mpr hj, hl, Link.isLinked]

/-- Below the leave threshold a link falls one state. -/
theorem evaluateLink_leaves {j l p : Nat} (hlj : l ≤ j) (hp : p < l) (link : Link) :
    evaluateLink j l link (some p) =
      match link with
      | .apart | .rising => (.apart, .nothing)
      | .linked | .resumed => (.falling, .nothing)
      | .falling => (.apart, .fallen) := by
  cases link <;> simp [evaluateLink, Nat.not_le.mpr hp, Nat.not_le.mpr (hp.trans_le hlj)]

theorem leave_le_join (k : Nat) : (thresholds k).2 ≤ (thresholds k).1 := by
  unfold thresholds
  split <;> decide

/-- Settles O22, by the three ranges of the pair value. -/
theorem linkMovesFollowThePairValue : Obligations.LinkMovesFollowThePairValue := by
  refine ⟨⟨rfl, rfl, rfl, rfl⟩, fun k p _ => ?_⟩
  intro j l
  refine ⟨evaluateLink_absent j l, fun hj => ?_, fun hl hj => evaluateLink_between hl hj, fun hl => ?_⟩
  · refine ⟨evaluateLink_joins hj l .apart, evaluateLink_joins hj l .rising, fun link hlink => ?_⟩
    rw [evaluateLink_joins hj]
    cases link with
    | apart | rising => cases hlink
    | linked | falling | resumed => rfl
  · have hleaves := evaluateLink_leaves (leave_le_join k) hl
    refine ⟨hleaves .linked, hleaves .resumed, hleaves .falling, fun link hlink => ?_⟩
    rw [hleaves]
    cases link with
    | apart | rising => rfl
    | linked | falling | resumed => cases hlink

/-! ### Admission (R69 to R71) -/

/-- What the table weighs in a slot: the weight of an unlinked entry (R70). -/
def unlinkedWeight (slots : List (Option Entry)) (i : Nat) : Option Nat :=
  (slotAt slots i).bind fun e => if e.link.isLinked then none else some e.weight

theorem unlinkedWeight_eq_some {slots : List (Option Entry)} {i w : Nat} :
    unlinkedWeight slots i = some w ↔ ∃ e, slotAt slots i = some e ∧ e.link.isLinked = false ∧ e.weight = w := by
  simp [unlinkedWeight, Option.bind_eq_some_iff]

/-- The victim is the lightest of the unlinked entries, and of equal ones the first. -/
theorem victimSlot_eq (slots : List (Option Entry)) :
    victimSlot slots = bestSlot (unlinkedWeight slots) (fun v w => decide (v < w)) slots.length := by
  unfold victimSlot bestSlot
  congr 1
  funext best i
  unfold betterSlot unlinkedWeight
  cases slotAt slots i with
  | none => rfl
  | some e =>
    dsimp only [Option.bind_some]
    cases e.link.isLinked with
    | true => rfl
    | false => cases best <;> simp

theorem victimSlot_eq_some {slots : List (Option Entry)} {i : Nat} {e : Entry} (he : slotAt slots i = some e)
    (hlink : e.link.isLinked = false)
    (hlight : ∀ n x, slotAt slots n = some x → x.link.isLinked = false →
      e.weight < x.weight ∨ (e.weight = x.weight ∧ i ≤ n)) : victimSlot slots = some (i, e.weight) := by
  rw [victimSlot_eq]
  refine bestSlot_eq_some (lt_of_slotAt he) (unlinkedWeight_eq_some.mpr ⟨e, he, hlink, rfl⟩) (fun n w hn hw => ?_)
    fun n w hw => ?_
  · obtain ⟨x, hx, hxl, rfl⟩ := unlinkedWeight_eq_some.mp hw
    rcases hlight n x hx hxl with hlt | ⟨-, hle⟩
    · exact decide_eq_true hlt
    · omega
  · obtain ⟨x, hx, hxl, rfl⟩ := unlinkedWeight_eq_some.mp hw
    have := hlight n x hx hxl
    exact decide_eq_false (by omega)

theorem victimSlot_eq_none {slots : List (Option Entry)} (h : ∀ e ∈ entriesOf slots, e.link.isLinked = true) :
    victimSlot slots = none := by
  rw [victimSlot_eq]
  refine bestSlot_eq_none fun i => Option.eq_none_iff_forall_ne_some.mpr fun w hw => ?_
  obtain ⟨e, he, hlink, -⟩ := unlinkedWeight_eq_some.mp hw
  rw [h e (mem_entriesOf.mpr ⟨i, he⟩)] at hlink
  cases hlink

section Admission

variable {s : State} {station : Station} {half : MeasuredHalf} {v : Nat}

theorem admission_weak (hv : v < 64) : admission station half v s = s := by rw [admission, if_pos (.inl hv)]

theorem admission_empty (hstation : station ≠ s.station) (hv : 64 ≤ v) {i : Nat}
    (hi : emptySlot s.table.slots = some i) :
    admission station half v s = s.withSlot i (some (newEntry station half v)) := by
  rw [admission, if_neg (by simp [hstation, hv]), hi]

/-- At a full table the victim gives way where it is weaker. -/
theorem admission_evicts (hstation : station ≠ s.station) (hv : 64 ≤ v) (hfull : emptySlot s.table.slots = none)
    {i w : Nat} (hvictim : victimSlot s.table.slots = some (i, w)) :
    admission station half v s =
      if w < v then s.withSlot i (some (newEntry station half v))
      else s.count (fun c => { c with tableOverflows := bump c.tableOverflows }) := by
  simp [admission, hstation, Nat.not_lt.mpr hv, hfull, hvictim]

theorem admission_overflows (hstation : station ≠ s.station) (hv : 64 ≤ v) (hfull : emptySlot s.table.slots = none)
    (hvictim : victimSlot s.table.slots = none) :
    admission station half v s = s.count (fun c => { c with tableOverflows := bump c.tableOverflows }) := by
  simp [admission, hstation, Nat.not_lt.mpr hv, hfull, hvictim]

end Admission

/-- Settles O24: the empty slot, the victim, or neither. -/
theorem admissionTakesAnEmptySlotOrTheWeakestEntry : Obligations.AdmissionTakesAnEmptySlotOrTheWeakestEntry := by
  intro station half v s hstation made weight overflow
  refine ⟨admission_weak, fun hv i hnone hi hfirst => admission_empty hstation hv ?_, fun hv hfull => ?_⟩
  · exact emptySlot_eq_some_iff.mpr ⟨hi, hnone, hfirst⟩
  · have hnone := emptySlot_eq_none_iff.mpr hfull
    exact ⟨fun i e he hlink hlight => admission_evicts hstation hv hnone (victimSlot_eq_some he hlink hlight),
      fun hlinked => admission_overflows hstation hv hnone (victimSlot_eq_none hlinked)⟩

end Sys2Proof.Machine

/-! SUPPORT. What a stored value makes of its entry, its link and the rest of the part (R62 to R67, R76, R77, R187). -/

namespace Sys2Proof.Machine

-- One thread, as above: a thread per theorem exceeds the memory limit of the check.
set_option Elab.async false

/-! ### The queue and the scheduler do not read the table -/

theorem fixHead_withTable (t : NeighbourTable) (s : State) : fixHead (s.withTable t) = (fixHead s).withTable t := by
  unfold fixHead
  simp only [State.withTable_line]
  split
  · by_cases h : s.line.idleFour = true
    · simp only [h, ↓reduceIte]
      rfl
    · simp only [h, ↓reduceIte, Bool.false_eq_true]
  · rfl

theorem enterOrDisplace_withTable (r : Request) (t : NeighbourTable) (s : State) :
    enterOrDisplace r (s.withTable t) = (enterOrDisplace r s).withTable t := by
  unfold enterOrDisplace
  by_cases h : s.line.queue.length < 8
  · simp only [State.withTable_line, h, ↓reduceIte]
    exact fixHead_withTable t (s.withLine (s.line.enter r))
  · simp only [State.withTable_line, h, ↓reduceIte]
    cases s.line.victim (rank r) with
    | some v =>
      exact fixHead_withTable t ((s.count fun c => { c with queueRefusals := bump c.queueRefusals }).withLine _)
    | none => rfl

theorem offer_withTable (r : Request) (t : NeighbourTable) (s : State) :
    offer r (s.withTable t) = (offer r s).withTable t := by
  unfold offer
  simp only [State.withTable_line, State.withTable_phase, enterOrDisplace_withTable, apply_ite (State.withTable · t)]
  rfl

theorem enterBrisk_withTable (d : Nat) (t : NeighbourTable) (s : State) :
    enterBrisk d (s.withTable t) = (enterBrisk d s).withTable t := by
  unfold enterBrisk
  simp only [State.withTable_sched]
  cases s.sched.mode with
  | brisk => rfl
  | normal => cases s.sched.state <;> rfl

/-! ### A shift (R76, R77) -/

/-- A shift: farther from the previous value than the larger of 64 and a quarter of it (R76). -/
theorem isShift_iff (k v : Nat) :
    isShift k v = true ↔ v + max 64 (v / 4) < k ∨ k + max 64 (v / 4) < v := by
  unfold isShift
  rw [decide_eq_true_eq]
  split <;> omega

/-- In listen-only, and while the spacing timer runs, a shift brings BRISK alone. -/
theorem takeShift_spaced {s : State} (h : s.phase = .listenOnly ∨ s.table.stirSpacing.isSome = true) :
    takeShift s = enterBrisk (seconds 600) s := by
  simp [takeShift, State.inListenOnly, h]

/-- Else the STIR is offered, and its spacing starts. -/
theorem takeShift_stirs {s : State} (h : ¬ (s.phase = .listenOnly ∨ s.table.stirSpacing.isSome = true)) :
    takeShift s = offer (.stir 0x01) ((enterBrisk (seconds 600) s).withTable
      { (enterBrisk (seconds 600) s).table with stirSpacing := some (seconds 60) }) := by
  simp [takeShift, State.inListenOnly, h]

/-- The part with other slots in its table. -/
def State.withSlots (s : State) (l : List (Option Entry)) : State := s.withTable { s.table with slots := l }

theorem withSlot_eq (s : State) (i : Nat) (e : Option Entry) : s.withSlot i e = s.withSlots (s.table.slots.set i e) := rfl

/-- A shift does not read the entries. -/
theorem takeShift_withSlots (l : List (Option Entry)) (s : State) :
    takeShift (s.withSlots l) = (takeShift s).withSlots l := by
  by_cases h : s.phase = .listenOnly ∨ s.table.stirSpacing.isSome = true
  · rw [takeShift_spaced h, takeShift_spaced (s := s.withSlots l) h]
    simp [State.withSlots, enterBrisk_withTable]
  · rw [takeShift_stirs h, takeShift_stirs (s := s.withSlots l) h, State.withSlots, enterBrisk_withTable]
    simp only [offer_withTable, enterBrisk_frame]
    rfl

theorem takeShift_slots (s : State) : (takeShift s).table.slots = s.table.slots := by
  rcases takeShift_cases s with h | h <;> simp [h]

/-- BRISK is brought, in whatever state the scheduler is. -/
theorem enterBrisk_mode (d : Nat) (s : State) :
    (enterBrisk d s).sched.mode = .brisk ∧ (enterBrisk d s).sched.state = s.sched.state := by
  rcases enterBrisk_cases d s with ⟨hm, h⟩ | ⟨-, -, h⟩ | ⟨-, -, h⟩ <;> rw [h]
  · exact ⟨hm, rfl⟩
  · exact ⟨rfl, rfl⟩
  · exact ⟨rfl, rfl⟩

theorem takeShift_sched (s : State) : (takeShift s).sched = (enterBrisk (seconds 600) s).sched := by
  rcases takeShift_cases s with h | h <;> simp [h]

/-- After a shift outside listen-only the spacing timer runs. -/
theorem takeShift_spacing {s : State} (h : s.phase ≠ .listenOnly) : (takeShift s).table.stirSpacing.isSome = true := by
  by_cases hspaced : s.phase = .listenOnly ∨ s.table.stirSpacing.isSome = true
  · rw [takeShift_spaced hspaced]
    simpa [h] using hspaced
  · rw [takeShift_stirs hspaced]
    simp

/-! ### The evaluation of a link (R66, R67, R74) -/

/-- The link and the move that a pair value gives, while the sensor state is OK. -/
def State.evaluated (s : State) (link : Link) (pair : Option Nat) : Link × LinkMove :=
  if s.table.sensor = .suspect then (link, .nothing)
  else evaluateLink (thresholds s.sensClass).1 (thresholds s.sensClass).2 link pair

/-- A link up or down FALLEN is handed on (R67). -/
def handOn (move : LinkMove) (s : State) : State := if move = .nothing then s else handLinkEvent s

@[simp] theorem handOn_frame (move : LinkMove) (s : State) :
    (handOn move s).phase = s.phase ∧ (handOn move s).straps = s.straps ∧ (handOn move s).round = s.round ∧
    (handOn move s).sense = s.sense ∧ (handOn move s).sched = s.sched ∧ (handOn move s).table = s.table ∧
    (handOn move s).light = s.light ∧ (handOn move s).climate = s.climate ∧
    (handOn move s).zone.working = s.zone.working ∧ (handOn move s).election.roots = s.election.roots ∧
    (handOn move s).memory.nv = s.memory.nv := by
  have hview := handLinkEvent_resultsView s
  unfold handOn
  split
  · simp
  · simpa using ⟨congrArg ResultsView.working hview, congrArg ResultsView.roots hview, congrArg ResultsView.nv hview⟩

/-- An entry put back where it stood changes nothing. -/
theorem withSlot_same {s : State} {i : Nat} {e : Entry} (he : slotAt s.table.slots i = some e) :
    s.withSlot i (some e) = s := by
  rw [← he, withSlot_eq, set_slotAt]
  rfl

theorem withSlot_twice (s : State) (i : Nat) (e f : Option Entry) : (s.withSlot i e).withSlot i f = s.withSlot i f := by
  simp [State.withSlot, State.withTable]

theorem slotAt_withSlot {s : State} {i : Nat} {e : Entry} (he : slotAt s.table.slots i = some e) (f : Option Entry)
    (n : Nat) : slotAt (s.withSlot i f).table.slots n = if n = i then f else slotAt s.table.slots n :=
  slotAt_set _ _ _ _ (lt_of_slotAt he)

/-- A slot evaluated: its link as the pair value moves it, and the move handed on. -/
theorem evaluateSlot_eq {s : State} {i : Nat} {e : Entry} (he : slotAt s.table.slots i = some e) :
    evaluateSlot i s =
      handOn (s.evaluated e.link e.pairValue).2
        (s.withSlot i (some { e with link := (s.evaluated e.link e.pairValue).1 })) := by
  unfold evaluateSlot State.evaluated
  rw [he]
  cases hsensor : s.table.sensor with
  | suspect => exact (withSlot_same he).symm
  | ok =>
    dsimp only
    simp only [reduceCtorEq, if_false]
    split <;> rename_i hmove <;> rw [hmove] <;> rfl

/-! ### Values stored (R62, R63) -/

/-- The entry with a told value stored, before its link is evaluated. -/
def Entry.withTold (e : Entry) (v : Nat) : Entry := { e with told := some v, quiet := 0 }

/-- The entry with a seen value stored, before its link is evaluated. -/
def Entry.withSeen (e : Entry) (k : Nat) : Entry := { e with previousSeen := e.seen, seen := some k, quiet := 0 }

/-- An entry with its link as a pair value moves it. -/
def State.linkMoved (s : State) (e : Entry) : Entry := { e with link := (s.evaluated e.link e.pairValue).1 }

theorem withTold_pairValue (e : Entry) (v : Nat) : (e.withTold v).pairValue = e.seen.map (fun k => min k v) := by
  unfold Entry.pairValue Entry.withTold
  cases e.seen <;> rfl

theorem withSeen_pairValue (e : Entry) (k : Nat) : (e.withSeen k).pairValue = e.told.map (fun v => min k v) := by
  unfold Entry.pairValue Entry.withSeen
  cases e.told <;> rfl

/-- A slot written and then evaluated. -/
theorem evaluateSlot_withSlot {s : State} {i : Nat} {e : Entry} (he : slotAt s.table.slots i = some e) (f : Entry) :
    evaluateSlot i (s.withSlot i (some f)) =
      handOn (s.evaluated f.link f.pairValue).2 (s.withSlot i (some (s.linkMoved f))) := by
  rw [evaluateSlot_eq (e := f) (by rw [slotAt_withSlot he, if_pos rfl]), withSlot_twice]
  rfl

theorem storeTold_eq {s : State} {i : Nat} {e : Entry} (he : slotAt s.table.slots i = some e) (v : Nat) :
    storeTold i v s =
      handOn (s.evaluated e.link (e.withTold v).pairValue).2 (s.withSlot i (some (s.linkMoved (e.withTold v)))) := by
  unfold storeTold
  rw [he]
  exact evaluateSlot_withSlot he (e.withTold v)

/-- A seen value stored: a shift is taken first, then the link evaluated, and a shift does not read the link. -/
theorem storeSeen_eq {s : State} {i : Nat} {e : Entry} (he : slotAt s.table.slots i = some e) (k : Nat) :
    storeSeen i k s =
      handOn (s.evaluated e.link (e.withSeen k).pairValue).2
        (if e.seen.any (isShift k) then takeShift (s.withSlot i (some (s.linkMoved (e.withSeen k))))
        else s.withSlot i (some (s.linkMoved (e.withSeen k)))) := by
  unfold storeSeen
  rw [he]
  change evaluateSlot i (if e.seen.any (isShift k) = true then takeShift (s.withSlot i (some (e.withSeen k)))
    else s.withSlot i (some (e.withSeen k))) = _
  split
  · have hslot : slotAt (takeShift s).table.slots i = some e := by rw [takeShift_slots, he]
    have hshift (f : Entry) : takeShift (s.withSlot i (some f)) = (takeShift s).withSlot i (some f) := by
      rw [withSlot_eq, withSlot_eq, takeShift_withSlots, takeShift_slots]
    have hevaluated (link : Link) (pair : Option Nat) : (takeShift s).evaluated link pair = s.evaluated link pair := by
      have hsensor := congrArg ResultsView.sensor (takeShift_resultsView s)
      have hstraps : (takeShift s).straps = s.straps := by simp
      unfold State.evaluated State.sensClass
      rw [show (takeShift s).table.sensor = s.table.sensor from hsensor, hstraps]
    rw [hshift, hshift, evaluateSlot_withSlot hslot]
    simp only [State.linkMoved, hevaluated]
    rfl
  · exact evaluateSlot_withSlot he (e.withSeen k)

/-- A told value stored changes its slot alone in the table. -/
theorem storeTold_table {s : State} {i : Nat} {e : Entry} (he : slotAt s.table.slots i = some e) (v : Nat) :
    (storeTold i v s).table = (s.withSlot i (some (s.linkMoved (e.withTold v)))).table := by
  rw [storeTold_eq he]
  simp

/-- The scheduler and the table have seen the shift, where there was one. -/
theorem storeSeen_views {s : State} {i : Nat} {e : Entry} (he : slotAt s.table.slots i = some e) (k : Nat) :
    let stored := s.withSlot i (some (s.linkMoved (e.withSeen k)))
    let shifted := if e.seen.any (isShift k) then takeShift stored else stored
    (storeSeen i k s).sched = shifted.sched ∧ (storeSeen i k s).table = shifted.table := by
  rw [storeSeen_eq he]
  simp

/-- A seen value stored changes its slot alone among the entries. -/
theorem storeSeen_slots {s : State} {i : Nat} {e : Entry} (he : slotAt s.table.slots i = some e) (k : Nat) :
    (storeSeen i k s).table.slots = s.table.slots.set i (some (s.linkMoved (e.withSeen k))) := by
  rw [storeSeen_eq he]
  split <;> simp [takeShift_slots]

theorem shifts_iff (e : Entry) (k : Nat) :
    e.seen.any (isShift k) = true ↔ ∃ v ∈ e.seen, (v + max 64 (v / 4) < k) ∨ (k + max 64 (v / 4) < v) := by
  simp [Option.any_eq_true, isShift_iff]

theorem linkMoved_eq (s : State) (e : Entry) : s.linkMoved e = { e with
    link := if s.table.sensor = .suspect then e.link
      else (evaluateLink (thresholds s.sensClass).1 (thresholds s.sensClass).2 e.link e.pairValue).1 } := by
  unfold State.linkMoved State.evaluated
  split <;> rfl

/-! ### A TALLY (R63) -/

/-- Two folds agree where their steps agree on the states that the first one passes. -/
theorem foldl_eq_of_keeps {α : Type} {P : State → Prop} {f g : State → α → State} (hkeeps : ∀ x a, P x → P (f x a))
    (hagree : ∀ x a, P x → f x a = g x a) (l : List α) {s : State} (hs : P s) : l.foldl f s = l.foldl g s := by
  induction l generalizing s with
  | nil => rfl
  | cons a rest ih =>
    rw [List.foldl_cons, List.foldl_cons, ← hagree s a hs]
    exact ih (hkeeps s a hs)

theorem exec_tally_heard {s : State} (h : s.hears) {sender : Station} (h0 : sender ≠ 0) {items : List (Station × Half)}
    (hne : 1 ≤ items.length) (hlen : items.length ≤ 6) :
    exec (.tally sender items) s = .next (takeTally sender items s.atNoticeEnd) := by
  have hfits : (Body.tally items).fits = true := by
    simp only [Body.fits, bodyBytes, List.length_cons, itemBytes_length, decide_eq_true_eq]
    omega
  exact congrArg _ (receive_of_inRange h (n := ⟨sender, .tally items⟩) hfits ⟨h0, by simp [bodyInRange, hne, hlen]⟩)

/-- An item that names this node with an index, from a sender held in a slot. -/
theorem takeTallyItem_held {s : State} {sender : Station} {i : Nat} (hslot : s.slotOf sender = some i) {value : Half}
    (hvalue : value.toNat ≤ 4095) : takeTallyItem sender s (s.station, value) = storeTold i value.toNat s := by
  simp [takeTallyItem, hvalue, hslot]

/-- In a sound table a station held is found at its slot. -/
theorem slotOf_eq_some {s : State} (hs : s.TableSound) {i : Nat} {e : Entry} (he : slotAt s.table.slots i = some e) :
    s.slotOf e.station = some i := by
  obtain ⟨-, -, hnodup, -⟩ := hs
  refine findSlot_eq_some he (by simp) fun n x hn hx => ?_
  have hne : x.station ≠ e.station := fun heq => Nat.ne_of_lt hn (slot_unique hnodup hx he heq)
  simpa using hne

/-- Settles O23: the fold of a TALLY, and what a told and a seen value make of their entry. -/
theorem storedValuesMoveTheirEntryAlone : Obligations.StoredValuesMoveTheirEntryAlone := by
  refine ⟨fun sender items s h h0 hne hlen => ?_, fun i v e s he => ?_, fun i k e s he => ?_,
    fun sender value i e s h hs hnode he hstation hvalue => ?_, fun i k e s he => ?_⟩
  · rw [exec_tally_heard h h0 hne hlen]
    refine congrArg _ (if_congr Iff.rfl rfl ?_)
    refine foldl_eq_of_keeps (P := fun x => x.station = s.station)
      (fun x item hx => (takeTallyItem_probingKept sender x item).station.trans hx) (fun x item hx => ?_) items rfl
    unfold takeTallyItem
    exact hx ▸ rfl
  · have hstored := storeTold_eq he v
    rw [State.linkMoved, withTold_pairValue] at hstored
    exact hstored
  · have hstored := storeSeen_eq he k
    rw [State.linkMoved, withSeen_pairValue] at hstored
    refine hstored.trans (congrArg (handOn _) (if_congr (shifts_iff e k) ?_ rfl))
    split
    · rename_i hspaced
      exact takeShift_spaced hspaced
    · rename_i hspaced
      exact takeShift_stirs hspaced
  · obtain ⟨h0, htool⟩ := (isNode_iff sender).mp hnode
    subst hstation
    have he' : slotAt s.atNoticeEnd.table.slots i = some e := he
    have htaken : takeTally e.station [(s.station, value)] s.atNoticeEnd = storeTold i value.toNat s.atNoticeEnd := by
      rw [takeTally, htool]
      exact takeTallyItem_held (s := s.atNoticeEnd) (slotOf_eq_some hs he) hvalue
    refine ⟨_, exec_tally_heard h h0 (by simp) (by simp), ?_⟩
    rw [htaken, storeTold_eq he']
    obtain ⟨hphase, hstraps, hround, hsense, hsched, htable, hlight, hclimate, hworking, hroots, hnv⟩ :=
      handOn_frame (s.atNoticeEnd.evaluated e.link (e.withTold value.toNat).pairValue).2
        (s.atNoticeEnd.withSlot i (some (s.atNoticeEnd.linkMoved (e.withTold value.toNat))))
    rw [htable]
    refine ⟨?_, fun n hn => ?_, ⟨rfl, rfl, rfl, rfl⟩, hphase, hstraps, hround, hsense, hsched, hlight, hclimate,
      hworking, hroots, hnv⟩
    · rw [slotAt_withSlot he', if_pos rfl, ← withTold_pairValue]
      exact congrArg some (linkMoved_eq s _)
    · rw [slotAt_withSlot he', if_neg hn]
      rfl
  · intro shift t
    obtain ⟨hsched, htable⟩ := storeSeen_views he k
    have hslots : t.table.slots = s.table.slots.set i (some (s.linkMoved (e.withSeen k))) := storeSeen_slots he k
    rw [hslots]
    refine ⟨?_, fun n hn => ?_, fun hs => ?_, fun hs hphase => ?_, fun hs => ?_⟩
    · rw [slotAt_set _ _ _ _ (lt_of_slotAt he), if_pos rfl, ← withSeen_pairValue]
      exact congrArg some (linkMoved_eq s _)
    · rw [slotAt_set _ _ _ _ (lt_of_slotAt he), if_neg hn]
    · rw [hsched, if_pos ((shifts_iff e k).mpr hs), takeShift_sched]
      exact enterBrisk_mode _ _
    · rw [htable, if_pos ((shifts_iff e k).mpr hs)]
      exact takeShift_spacing hphase
    · rw [hsched, htable, if_neg (mt (shifts_iff e k).mp hs)]
      exact ⟨rfl, rfl⟩

end Sys2Proof.Machine

/-! SUPPORT. Entries that age out of the table, and what a derivation leaves of the election and the zone (R67, R72, R74, R77,
R93). -/

namespace Sys2Proof.Machine

-- One thread, as above: a thread per theorem exceeds the memory limit of the check.
set_option Elab.async false

/-! ### What a derivation leaves unchanged (R93) -/

theorem rootDuty_holds (before after : Station) (s : State) :
    (rootDuty before after s).election.roots = s.election.roots ∧
    (rootDuty before after s).election.ownGeneration = s.election.ownGeneration ∧
    (rootDuty before after s).election.announced = s.election.announced ∧
    (rootDuty before after s).election.claimSpacing = s.election.claimSpacing ∧
    (rootDuty before after s).election.ageSecond = s.election.ageSecond := by
  rcases rootDuty_cases before after s with ⟨-, h⟩ | ⟨-, -, h⟩ | ⟨-, -, -, h⟩ | ⟨-, -, -, h⟩ <;> simp [h]

theorem takeDerived_holds (c : Candidate) (s : State) :
    (takeDerived c s).election.roots = s.election.roots ∧
    (takeDerived c s).election.ownGeneration = s.election.ownGeneration ∧
    (takeDerived c s).election.announced = s.election.announced ∧
    (takeDerived c s).election.claimSpacing = s.election.claimSpacing ∧
    (takeDerived c s).election.ageSecond = s.election.ageSecond ∧
    (takeDerived c s).zone.working = s.zone.working ∧ (takeDerived c s).zone.hold = s.zone.hold := by
  unfold takeDerived
  dsimp only
  split
  · simp [rootDuty_holds]
  · simp [rootDuty_holds, handRoot]

/-- The root list, the own generation, the announcement, the working root and the hold are not the derivation's. -/
@[simp] theorem derive_holds (s : State) :
    (derive s).election.roots = s.election.roots ∧ (derive s).election.ownGeneration = s.election.ownGeneration ∧
    (derive s).election.announced = s.election.announced ∧
    (derive s).election.claimSpacing = s.election.claimSpacing ∧
    (derive s).election.ageSecond = s.election.ageSecond ∧
    (derive s).zone.working = s.zone.working ∧ (derive s).zone.hold = s.zone.hold := by
  rcases derive_cases s with ⟨-, h⟩ | ⟨-, -, -, h⟩ | ⟨-, -, h⟩ <;> rw [h]
  · simp
  · simp
  · exact takeDerived_holds _ s

/-! ### The slots of the table changed in order -/

/-- A slot of the table changed by what it holds. -/
def NeighbourTable.change (g : Option Entry → Option Entry) (t : NeighbourTable) (i : Nat) : NeighbourTable :=
  { t with slots := t.slots.set i (g (slotAt t.slots i)) }

theorem NeighbourTable.change_none {g : Option Entry → Option Entry} {t : NeighbourTable} {i : Nat}
    (h : g (slotAt t.slots i) = slotAt t.slots i) : t.change g i = t := by
  rw [NeighbourTable.change, h, set_slotAt]

/-- An operation that changes the slots in order, one by one, changes the table so. -/
theorem foldl_table {f : State → Nat → State} {g : Option Entry → Option Entry}
    (hf : ∀ s i, (f s i).table = s.table.change g i) (n : Nat) (s : State) :
    ((List.range n).foldl f s).table = { s.table with slots := changeSlots g n s.table.slots } := by
  induction n with
  | zero => rfl
  | succ n ih =>
    rw [List.range_succ, List.foldl_append, List.foldl_cons, List.foldl_nil, hf, ih, changeSlots_succ]
    rfl

/-- A predicate that every step of a fold keeps holds at its end. -/
theorem foldl_keeps {α : Type} {P : State → Prop} {f : State → α → State} (h : ∀ x a, P x → P (f x a)) (l : List α)
    {s : State} (hs : P s) : P (l.foldl f s) := by
  induction l generalizing s with
  | nil => exact hs
  | cons a rest ih => exact ih (h s a hs)

/-! ### Ageing (R72) -/

/-- What ageing leaves in a slot: an entry whose quiet has not reached 15. -/
def stillHeard (x : Option Entry) : Option Entry := x.filter (fun e => decide (e.quiet < 15))

theorem stillHeard_old {e : Entry} (h : 15 ≤ e.quiet) : stillHeard (some e) = none := by
  simpa [stillHeard, Option.filter_eq_none_iff] using h

theorem stillHeard_young {e : Entry} (h : e.quiet < 15) : stillHeard (some e) = some e := by
  simpa [stillHeard, Option.filter_eq_some_iff] using h

/-- An entry removed: its slot is emptied, and a linked one hands its link down LOST on. -/
theorem ageOutEntry_cases (s : State) (i : Nat) :
    (stillHeard (slotAt s.table.slots i) = slotAt s.table.slots i ∧ ageOutEntry s i = s) ∨
      ∃ e, slotAt s.table.slots i = some e ∧ 15 ≤ e.quiet ∧
        ((e.link.isLinked = false ∧ ageOutEntry s i = s.withSlot i none) ∨
          (e.link.isLinked = true ∧ ageOutEntry s i = handLinkEvent (s.withSlot i none))) := by
  unfold ageOutEntry
  cases he : slotAt s.table.slots i with
  | none => exact .inl ⟨rfl, rfl⟩
  | some e =>
    by_cases hq : 15 ≤ e.quiet
    · refine .inr ⟨e, rfl, hq, ?_⟩
      cases hlink : e.link.isLinked <;> simp [hq, hlink]
    · exact .inl ⟨stillHeard_young (Nat.lt_of_not_le hq), by simp [hq]⟩

theorem ageOutEntry_table (s : State) (i : Nat) : (ageOutEntry s i).table = s.table.change stillHeard i := by
  rcases ageOutEntry_cases s i with ⟨hstill, h⟩ | ⟨e, he, hq, ⟨-, h⟩ | ⟨-, h⟩⟩ <;> rw [h]
  · exact (NeighbourTable.change_none hstill).symm
  · simp [NeighbourTable.change, he, stillHeard_old hq]
  · simp [NeighbourTable.change, he, stillHeard_old hq]

@[simp] theorem handLinkEvent_holds (s : State) :
    (handLinkEvent s).election.roots = s.election.roots ∧
    (handLinkEvent s).election.ownGeneration = s.election.ownGeneration ∧
    (handLinkEvent s).zone.working = s.zone.working ∧ (handLinkEvent s).memory.nv = s.memory.nv := by
  unfold handLinkEvent
  simp

theorem ageOutEntry_holds (s : State) (i : Nat) :
    (ageOutEntry s i).election.roots = s.election.roots ∧
    (ageOutEntry s i).election.ownGeneration = s.election.ownGeneration ∧
    (ageOutEntry s i).zone.working = s.zone.working ∧ (ageOutEntry s i).memory.nv = s.memory.nv := by
  rcases ageOutEntry_cases s i with ⟨-, h⟩ | ⟨e, -, -, ⟨-, h⟩ | ⟨-, h⟩⟩ <;> rw [h] <;> simp

/-- One expiry: the quiet counts advanced, each at most to 255 (R72). -/
def State.advanced (s : State) : State :=
  s.withTable { s.table with
    slots := s.table.slots.map (Option.map fun e => { e with quiet := min 255 (e.quiet + 1) }) }

theorem slotAt_advanced (s : State) (i : Nat) : slotAt s.advanced.table.slots i =
    (slotAt s.table.slots i).map fun e => { e with quiet := min 255 (e.quiet + 1) } := slotAt_map _ i

theorem ageTable_suspect {s : State} (h : s.table.sensor = .suspect) : ageTable s = s := by simp [ageTable, h]

theorem ageTable_ok {s : State} (h : s.table.sensor = .ok) : ageTable s = (List.range 16).foldl ageOutEntry s.advanced := by
  unfold ageTable
  rw [h]
  rfl

theorem ageTable_table {s : State} (h : s.table.sensor = .ok) :
    (ageTable s).table = { s.table with slots := changeSlots stillHeard 16 s.advanced.table.slots } := by
  rw [ageTable_ok h, foldl_table ageOutEntry_table]
  rfl

/-- Ageing changes the entries alone in the table. -/
theorem ageTable_health (s : State) : (ageTable s).table = { s.table with slots := (ageTable s).table.slots } := by
  cases hsensor : s.table.sensor with
  | suspect => rw [ageTable_suspect hsensor]
  | ok => rw [ageTable_table hsensor]

theorem ageTable_holds (s : State) :
    (ageTable s).election.roots = s.election.roots ∧
    (ageTable s).election.ownGeneration = s.election.ownGeneration ∧
    (ageTable s).zone.working = s.zone.working ∧ (ageTable s).memory.nv = s.memory.nv := by
  cases hsensor : s.table.sensor with
  | suspect => simp [ageTable_suspect hsensor]
  | ok =>
    rw [ageTable_ok hsensor]
    refine foldl_keeps (P := fun x => x.election.roots = s.election.roots ∧
      x.election.ownGeneration = s.election.ownGeneration ∧ x.zone.working = s.zone.working ∧
      x.memory.nv = s.memory.nv) (fun x i hx => ?_) _ ⟨rfl, rfl, rfl, rfl⟩
    obtain ⟨hroots, hown, hworking, hnv⟩ := ageOutEntry_holds x i
    obtain ⟨xroots, xown, xworking, xnv⟩ := hx
    exact ⟨hroots.trans xroots, hown.trans xown, hworking.trans xworking, hnv.trans xnv⟩

/-- What one expiry leaves of an entry in OK. -/
def agedEntry (e : Entry) : Option Entry := if 15 ≤ e.quiet + 1 then none else some { e with quiet := e.quiet + 1 }

theorem stillHeard_advanced (x : Option Entry) :
    stillHeard (x.map fun e => { e with quiet := min 255 (e.quiet + 1) }) = x.bind agedEntry := by
  cases x with
  | none => rfl
  | some e =>
    rw [Option.map_some, Option.bind_some, agedEntry]
    split
    · exact stillHeard_old (by dsimp only; omega)
    · have hmin : min 255 (e.quiet + 1) = e.quiet + 1 := by omega
      rw [hmin]
      exact stillHeard_young (by dsimp only; omega)

theorem ageTable_slotAt {s : State} (h : s.table.sensor = .ok) (hlen : s.table.slots.length = 16) (i : Nat) :
    slotAt (ageTable s).table.slots i = (slotAt s.table.slots i).bind agedEntry := by
  have hslots : (ageTable s).table.slots = changeSlots stillHeard 16 s.advanced.table.slots := by rw [ageTable_table h]
  rw [hslots, slotAt_changeSlots rfl, slotAt_advanced, stillHeard_advanced]
  split
  · rfl
  · rename_i hi
    rw [slotAt_of_le (by omega)]
    rfl

/-- What a link down LOST reaches beyond the table. -/
def State.lossView (s : State) : Election × WorkingZone × LineInterface × ZoneMemory × BitVec 16 :=
  (s.election, s.zone, s.line, s.memory, s.rng)

/-- Where no linked entry is removed, nothing beyond the table changes. -/
theorem ageTable_lossView {s : State} (h : ∀ e ∈ entriesOf s.table.slots, e.link.isLinked = true → e.quiet < 14) :
    (ageTable s).lossView = s.lossView := by
  cases hsensor : s.table.sensor with
  | suspect => rw [ageTable_suspect hsensor]
  | ok =>
    rw [ageTable_ok hsensor]
    refine (foldl_keeps (P := fun x => x.lossView = s.lossView ∧
      ∀ i e, slotAt x.table.slots i = some e → e.link.isLinked = true → e.quiet < 15) (fun x i hx => ?_) _ ?_).1
    · obtain ⟨hview, hyoung⟩ := hx
      rcases ageOutEntry_cases x i with ⟨-, heq⟩ | ⟨e, he, hq, ⟨-, heq⟩ | ⟨hlink, -⟩⟩
      · rw [heq]
        exact ⟨hview, hyoung⟩
      · rw [heq]
        refine ⟨hview, fun n f hf => hyoung n f ?_⟩
        rw [slotAt_withSlot he] at hf
        split at hf
        · cases hf
        · exact hf
      · exact absurd (hyoung i e he hlink) (by omega)
    · refine ⟨rfl, fun i e he hlink => ?_⟩
      rw [slotAt_advanced, Option.map_eq_some_iff] at he
      obtain ⟨f, hf, rfl⟩ := he
      have hq := h f (mem_entriesOf.mpr ⟨i, hf⟩) hlink
      exact lt_of_le_of_lt (min_le_right _ _) (by omega)

/-! ### The commands -/

/-- The timer restarted at its expiry (R72). -/
def State.minuteRestarted (s : State) : State := s.withTable { s.table with agingMinute := some (seconds 60) }

theorem exec_agingMinute {s : State} (h : s.table.agingMinute.isSome = true) :
    exec .agingMinute s = .next (ageTable s.minuteRestarted) := by
  simp only [exec, execAgingMinute, onExpiry, if_pos h]
  rfl

theorem exec_stirSpacingExpiry {s : State} (h : s.table.stirSpacing.isSome = true) :
    exec .stirSpacingExpiry s = .next (s.withTable { s.table with stirSpacing := none }) := by
  simp only [exec, execStirSpacingExpiry, onExpiry, if_pos h]

/-- Quiet counts within their range advance by one. -/
theorem advanced_eq {s : State} (h : ∀ e ∈ entriesOf s.table.slots, e.quiet ≤ 14) : s.advanced =
    s.withTable { s.table with
      slots := s.table.slots.map (fun x => x.map (fun e => { e with quiet := e.quiet + 1 })) } := by
  unfold State.advanced
  refine congrArg (fun l => s.withTable { s.table with slots := l }) (List.map_congr_left fun x hx => ?_)
  cases x with
  | none => rfl
  | some e =>
    have hq := h e (by simpa [entriesOf] using hx)
    have hmin : min 255 (e.quiet + 1) = e.quiet + 1 := by omega
    simp [hmin]

/-- Settles O25: the fold over the slots, and what it leaves slot by slot and beyond the table. -/
theorem agingMinuteAdvancesAndRemoves : Obligations.AgingMinuteAdvancesAndRemoves := by
  refine fun s => ⟨fun hrun hok hquiet => ?_, fun hrun hlen => ?_, fun hrun => exec_stirSpacingExpiry hrun⟩
  · intro linkEvent
    rw [exec_agingMinute hrun, ageTable_ok (s := s.minuteRestarted) hok, advanced_eq (s := s.minuteRestarted) hquiet]
    rfl
  · refine ⟨_, exec_agingMinute hrun, ?_⟩
    obtain ⟨hroots, hown, hworking, hnv⟩ := ageTable_holds s.minuteRestarted
    have htable := ageTable_health s.minuteRestarted
    refine ⟨by rw [htable]; rfl, fun i => ?_, ⟨by rw [htable]; rfl, by rw [htable]; rfl, by rw [htable]; rfl⟩,
      fun hheld => ?_, hroots, hown, hworking, hnv, by simp [State.minuteRestarted]⟩
    · cases hsensor : s.table.sensor with
      | suspect => rw [ageTable_suspect (s := s.minuteRestarted) hsensor, if_pos rfl]; rfl
      | ok => exact ageTable_slotAt (s := s.minuteRestarted) hsensor hlen i
    · have hview := ageTable_lossView (s := s.minuteRestarted) hheld
      simp only [State.lossView, Prod.mk.injEq] at hview
      obtain ⟨helection, hzone, hline, hmemory, hrng⟩ := hview
      exact ⟨helection, hzone, hline, hmemory, hrng⟩

end Sys2Proof.Machine

/-! SUPPORT. A CLAIM taken: its sender's entry, and the root list (R81, R84, R85, R92). -/

namespace Sys2Proof.Machine

-- One thread, as above: a thread per theorem exceeds the memory limit of the check.
set_option Elab.async false

/-! ### The sender's entry (R81) -/

theorem storeClaim_held {s : State} {sender : Station} {i : Nat} {e : Entry} (hslot : s.slotOf sender = some i)
    (he : slotAt s.table.slots i = some e) (c : Claim) :
    storeClaim sender c s = s.withSlot i (some { e with claim := some c }) := by
  simp [storeClaim, hslot, he]

theorem storeClaim_unknown {s : State} {sender : Station} (hslot : s.slotOf sender = none) (c : Claim) :
    storeClaim sender c s = s := by
  simp [storeClaim, hslot]

theorem changesLinkedClaim_held {s : State} {sender : Station} {i : Nat} {e : Entry} (hslot : s.slotOf sender = some i)
    (he : slotAt s.table.slots i = some e) (c : Claim) :
    s.changesLinkedClaim sender c = (e.link.isLinked && decide (e.claim ≠ some c)) := by
  simp [State.changesLinkedClaim, hslot, he]

theorem changesLinkedClaim_unknown {s : State} {sender : Station} (hslot : s.slotOf sender = none) (c : Claim) :
    s.changesLinkedClaim sender c = false := by
  simp [State.changesLinkedClaim, hslot]

/-- The slot of a station is the first that holds it. -/
theorem slotOf_cases (s : State) (station : Station) :
    (s.slotOf station = none ∧ ∀ e ∈ entriesOf s.table.slots, e.station ≠ station) ∨
      ∃ i e, s.slotOf station = some i ∧ slotAt s.table.slots i = some e ∧ e.station = station := by
  cases h : s.slotOf station with
  | none => exact .inl ⟨rfl, fun e he => by simpa using findSlot_eq_none_iff.mp h e he⟩
  | some i =>
    obtain ⟨-, ⟨e, he, ht⟩, -⟩ := findSlot_some h
    exact .inr ⟨i, e, rfl, he, by simpa using ht⟩

/-! ### The claim taken (R81, R84, R92) -/

/-- The root list a claim leaves, and whether it calls for a derivation: one of hops 0 carries values (R84, R85). -/
def State.rootList (s : State) (c : Claim) (values : Option (Half × Byte)) : List (Option RootEntry) × Bool :=
  match values with
  | some (setpoint, setback) => s.rootsAfterClaim ⟨c.root, c.generation, setpoint.toInt, setback.toNat, 0⟩
  | none => (s.election.roots, false)

theorem takeClaim_eq (sender : Station) (c : Claim) (values : Option (Half × Byte)) (s : State) :
    takeClaim sender c values s =
      if s.changesLinkedClaim sender c = true ∨ (s.rootList c values).2 = true then
        derive ((storeClaim sender c s).withElection { s.election with roots := (s.rootList c values).1 })
      else (storeClaim sender c s).withElection { s.election with roots := (s.rootList c values).1 } := by
  refine Eq.trans ?_ (if_congr (Bool.or_eq_true _ _).to_iff rfl rfl)
  unfold takeClaim State.rootList
  cases values <;> rfl

/-- A claim taken changes the sender's entry, the root list, and what a derivation changes. -/
theorem takeClaim_holds (sender : Station) (c : Claim) (values : Option (Half × Byte)) (s : State) :
    (takeClaim sender c values s).table = (storeClaim sender c s).table ∧
    (takeClaim sender c values s).election.roots = (s.rootList c values).1 ∧
    (takeClaim sender c values s).election.ownGeneration = s.election.ownGeneration ∧
    (takeClaim sender c values s).zone.working = s.zone.working := by
  rw [takeClaim_eq]
  split <;> simp

theorem exec_claim_heard {s : State} (h : s.hears) {sender root : Station} {hops generation : Byte}
    {values : Option (Half × Byte)} (hnode : isNode sender = true) (hhops : hops.toNat ≤ 15)
    (hvalues : hops = 0 ↔ values.isSome = true) (hroot : hops = 0 → root = sender) :
    exec (.claim sender root hops generation values) s =
      .next (takeClaim sender ⟨root, hops.toNat, generation⟩ values s.atNoticeEnd) := by
  obtain ⟨h0, htool⟩ := (isNode_iff sender).mp hnode
  have hfits : (Body.claim root hops generation values).fits = true := by
    cases values <;> simp [Body.fits, bodyBytes, stationBytes, halfBytes]
  have hcarries : (decide (hops = 0) == values.isSome) = true := by
    rw [beq_iff_eq, ← Bool.coe_iff_coe, decide_eq_true_eq]
    exact hvalues
  have hown : (decide (hops ≠ 0) || decide (root = sender)) = true := by
    simpa [or_iff_not_imp_left] using hroot
  exact congrArg _ (receive_of_inRange h (n := ⟨sender, .claim root hops generation values⟩) hfits
    ⟨h0, by simp only [bodyInRange, hhops, hcarries, hown, htool]; rfl⟩)

/-! ### The root list (R84, R85) -/

/-- The root of a slot whose entry may give way (R85). -/
def State.evictableRoot (s : State) (i : Nat) : Option Station :=
  (slotAt s.election.roots i).bind fun e => if s.evictable e then some e.root else none

theorem evictableRoot_eq_some {s : State} {i : Nat} {r : Station} :
    s.evictableRoot i = some r ↔ ∃ e, slotAt s.election.roots i = some e ∧ s.evictable e = true ∧ e.root = r := by
  simp [State.evictableRoot, Option.bind_eq_some_iff]

theorem evictable_iff (s : State) (e : RootEntry) :
    s.evictable e = true ↔ e.root ≠ s.zone.working ∧ e.root ≠ s.election.derived.root := by
  simp [State.evictable]

/-- The victim is the highest of the roots that may give way. -/
theorem rootVictim_eq (s : State) :
    s.rootVictim = bestSlot s.evictableRoot (fun r q => decide (q < r)) s.election.roots.length := by
  unfold State.rootVictim bestSlot
  congr 1
  funext best i
  unfold betterSlot State.evictableRoot
  cases slotAt s.election.roots i with
  | none => rfl
  | some e =>
    dsimp only [Option.bind_some]
    cases hevict : s.evictable e <;> cases best <;> simp [hevict]

theorem rootVictim_eq_some {s : State} (hnodup : ((entriesOf s.election.roots).map (fun x => x.root)).Nodup) {i : Nat}
    {v : RootEntry} (hv : slotAt s.election.roots i = some v) (hevict : s.evictable v = true)
    (hhigh : ∀ x ∈ entriesOf s.election.roots, s.evictable x = true → x.root ≤ v.root) :
    s.rootVictim = some (i, v.root) := by
  rw [rootVictim_eq]
  refine bestSlot_eq_some (lt_of_slotAt hv) (evictableRoot_eq_some.mpr ⟨v, hv, hevict, rfl⟩) (fun n r hn hr => ?_)
    fun n r hr => ?_
  · obtain ⟨x, hx, hxe, rfl⟩ := evictableRoot_eq_some.mp hr
    have hne : x.root ≠ v.root := fun heq => Nat.ne_of_lt hn (slot_unique hnodup hx hv heq)
    have hle := hhigh x (mem_entriesOf.mpr ⟨n, hx⟩) hxe
    exact decide_eq_true (by bv_omega)
  · obtain ⟨x, hx, hxe, rfl⟩ := evictableRoot_eq_some.mp hr
    exact decide_eq_false (BitVec.not_lt.mpr (hhigh x (mem_entriesOf.mpr ⟨n, hx⟩) hxe))

theorem rootVictim_eq_none {s : State} (h : ∀ x ∈ entriesOf s.election.roots, s.evictable x = false) :
    s.rootVictim = none := by
  rw [rootVictim_eq]
  refine bestSlot_eq_none fun i => Option.eq_none_iff_forall_ne_some.mpr fun r hr => ?_
  obtain ⟨x, hx, hxe, -⟩ := evictableRoot_eq_some.mp hr
  rw [h x (mem_entriesOf.mpr ⟨i, hx⟩)] at hxe
  cases hxe

section RootList

variable {s : State} {e : RootEntry}

theorem rootsAfterClaim_refreshes (hnodup : ((entriesOf s.election.roots).map (fun x => x.root)).Nodup) {i : Nat}
    {x : RootEntry} (hx : slotAt s.election.roots i = some x) (hroot : x.root = e.root) :
    s.rootsAfterClaim e = (s.election.roots.set i (some e), decide (x.generation ≠ e.generation)) := by
  have hfind : findSlot s.election.roots (fun x => decide (x.root = e.root)) = some i := by
    refine findSlot_eq_some hx (by simpa using hroot) fun n y hn hy => ?_
    have hne : y.root ≠ x.root := fun heq => Nat.ne_of_lt hn (slot_unique hnodup hy hx heq)
    simpa [← hroot] using hne
  simp [State.rootsAfterClaim, hfind, hx]

/-- A root not held finds no entry of its own. -/
theorem findRoot_eq_none (h : ∀ x ∈ entriesOf s.election.roots, x.root ≠ e.root) :
    findSlot s.election.roots (fun x => decide (x.root = e.root)) = none :=
  findSlot_eq_none_iff.mpr fun x hx => by simpa using h x hx

theorem rootsAfterClaim_inserts (h : ∀ x ∈ entriesOf s.election.roots, x.root ≠ e.root) {i : Nat}
    (hi : emptySlot s.election.roots = some i) : s.rootsAfterClaim e = (s.election.roots.set i (some e), true) := by
  simp [State.rootsAfterClaim, findRoot_eq_none h, hi]

theorem rootsAfterClaim_displaces (h : ∀ x ∈ entriesOf s.election.roots, x.root ≠ e.root)
    (hfull : emptySlot s.election.roots = none) {i : Nat} {r : Station} (hvictim : s.rootVictim = some (i, r)) :
    s.rootsAfterClaim e =
      if e.root < r then (s.election.roots.set i (some e), true) else (s.election.roots, false) := by
  simp [State.rootsAfterClaim, findRoot_eq_none h, hfull, hvictim]

theorem rootsAfterClaim_refuses (h : ∀ x ∈ entriesOf s.election.roots, x.root ≠ e.root)
    (hfull : emptySlot s.election.roots = none) (hvictim : s.rootVictim = none) :
    s.rootsAfterClaim e = (s.election.roots, false) := by
  simp [State.rootsAfterClaim, findRoot_eq_none h, hfull, hvictim]

end RootList

/-- Settles O28: the sender's entry with one derivation, what stays, and the root list. -/
theorem claimIsStoredAndTakenIntoTheRootList : Obligations.ClaimIsStoredAndTakenIntoTheRootList := by
  refine ⟨fun sender root hops generation values s h hnode hhops hvalues hroot => ?_,
    fun sender root hops generation values s h hnode hhops hvalues hroot => ?_, fun s e hnodup => ?_⟩
  · rw [exec_claim_heard h hnode hhops hvalues hroot, takeClaim_eq]
    intro claim list taken
    refine ⟨fun i e he hstation hfirst => ?_, fun hnew => ?_⟩
    · have hslot : s.atNoticeEnd.slotOf sender = some i :=
        findSlot_eq_some he (by simpa using hstation) fun n x hn hx => by simpa using hfirst n x hn hx
      rw [storeClaim_held hslot he, changesLinkedClaim_held hslot he]
      rfl
    · have hslot : s.atNoticeEnd.slotOf sender = none := findSlot_eq_none_iff.mpr fun e he => by simpa using hnew e he
      rw [storeClaim_unknown hslot, changesLinkedClaim_unknown hslot]
      rfl
  · refine ⟨_, exec_claim_heard h hnode hhops hvalues hroot, ?_⟩
    obtain ⟨htable, hroots, hown, hworking⟩ :=
      takeClaim_holds sender ⟨root, hops.toNat, generation⟩ values s.atNoticeEnd
    obtain ⟨hphase, hstraps, -, hround, hsense, hsched, hlight, hclimate, hmemory, -⟩ :=
      takeClaim_frame (s := s.atNoticeEnd) sender ⟨root, hops.toNat, generation⟩ values
    refine ⟨fun i e he hstation honly => ?_, fun i e he hother => ?_, ?_, ?_, ?_⟩
    · rcases slotOf_cases s.atNoticeEnd sender with ⟨-, hnew⟩ | ⟨j, f, hslot, hf, hfs⟩
      · exact absurd hstation (hnew e (mem_entriesOf.mpr ⟨i, he⟩))
      · obtain rfl : j = i := honly j f hf hfs
        obtain rfl : f = e := Option.some.inj (hf.symm.trans he)
        rw [htable, storeClaim_held hslot hf, slotAt_withSlot hf, if_pos rfl]
    · rcases slotOf_cases s.atNoticeEnd sender with ⟨hslot, -⟩ | ⟨j, f, hslot, hf, hfs⟩
      · rw [htable, storeClaim_unknown hslot]
        exact he
      · have hne : i ≠ j := by
          rintro rfl
          exact hother ((congrArg Entry.station (Option.some.inj (he.symm.trans hf))).trans hfs)
        rw [htable, storeClaim_held hslot hf, slotAt_withSlot hf, if_neg hne]
        exact he
    · rintro rfl
      exact hroots
    · rintro setpoint setback rfl
      exact hroots
    · exact ⟨hphase, hstraps, hround, hsense, hsched, hlight, hclimate, hworking, hown, hmemory⟩
  · refine ⟨fun i x hx hroot => rootsAfterClaim_refreshes hnodup hx hroot, fun hnew => ⟨fun i hnone hi hfirst => ?_,
      fun hfull => ?_⟩⟩
    · exact rootsAfterClaim_inserts hnew (emptySlot_eq_some_iff.mpr ⟨hi, hnone, hfirst⟩)
    · have hnone := emptySlot_eq_none_iff.mpr hfull
      refine ⟨fun i v hv hworking hderived hhigh => ?_, fun hkept => ?_⟩
      · refine rootsAfterClaim_displaces hnew hnone
          (rootVictim_eq_some hnodup hv ((evictable_iff s v).mpr ⟨hworking, hderived⟩) fun x hx hevict => ?_)
        obtain ⟨hxw, hxd⟩ := (evictable_iff s x).mp hevict
        exact hhigh x hx hxw hxd
      · refine rootsAfterClaim_refuses hnew hnone (rootVictim_eq_none fun x hx => ?_)
        rw [Bool.eq_false_iff, Ne, evictable_iff]
        have := hkept x hx
        tauto

end Sys2Proof.Machine

/-! SUPPORT. A FORGET taken by three blocks in any order, and the requests it offers (R82, R112, R116, R128, R192). -/

namespace Sys2Proof.Machine

-- One thread, as above: a thread per theorem exceeds the memory limit of the check.
set_option Elab.async false

/-! ### Three deliveries in any order -/

section AnyOrder

variable {f g h : State → State} {P : State → Prop} (hf : ∀ x, P x → P (f x)) (hg : ∀ x, P x → P (g x))
  (hh : ∀ x, P x → P (h x)) (hfree : ∀ x n, P x → P { x with free := n })

include hf hg hh hfree in
/-- What each delivery keeps, any order keeps. -/
theorem anyOrder_keeps {s : State} (hs : P s) : P (anyOrder f g h s) := by
  obtain ⟨a, ha, h⟩ := anyOrder_cases f g h s
  have kept : P a := by
    rcases ha with rfl | rfl | rfl | rfl | rfl | rfl
    · exact hh _ (hg _ (hf _ hs))
    · exact hg _ (hh _ (hf _ hs))
    · exact hh _ (hf _ (hg _ hs))
    · exact hf _ (hh _ (hg _ hs))
    · exact hg _ (hf _ (hh _ hs))
    · exact hf _ (hg _ (hh _ hs))
  rcases h with h | h <;> rw [h]
  · exact kept
  · exact hfree _ _ kept

include hf hh hfree in
/-- What the second delivery brings about and the others keep holds after any order. -/
theorem anyOrder_reaches (hg : ∀ x, P (g x)) (s : State) : P (anyOrder f g h s) := by
  obtain ⟨a, ha, h⟩ := anyOrder_cases f g h s
  have reached : P a := by
    rcases ha with rfl | rfl | rfl | rfl | rfl | rfl
    · exact hh _ (hg _)
    · exact hg _
    · exact hh _ (hf _ (hg _))
    · exact hf _ (hh _ (hg _))
    · exact hg _
    · exact hf _ (hg _)
  rcases h with h | h <;> rw [h]
  · exact reached
  · exact hfree _ _ reached

end AnyOrder

/-- Where the deliveries change a view by functions that commute, so does any order of them. -/
theorem anyOrder_commute {β : Type} {view : State → β} {f g h : State → State} {F G H : β → β}
    (hf : ∀ x, view (f x) = F (view x)) (hg : ∀ x, view (g x) = G (view x)) (hh : ∀ x, view (h x) = H (view x))
    (hfree : ∀ x n, view { x with free := n } = view x) (hFG : ∀ v, F (G v) = G (F v)) (hFH : ∀ v, F (H v) = H (F v))
    (hGH : ∀ v, G (H v) = H (G v)) (s : State) : view (anyOrder f g h s) = H (G (F (view s))) := by
  obtain ⟨a, ha, h⟩ := anyOrder_cases f g h s
  have reached : view a = H (G (F (view s))) := by
    rcases ha with rfl | rfl | rfl | rfl | rfl | rfl <;> simp only [hf, hg, hh, hFG, hFH, hGH]
  rcases h with h | h <;> rw [h]
  · exact reached
  · rw [hfree, reached]

/-! ### What the three blocks change (R82, R116, R47) -/

/-- The part but for the line, the derived claim with what follows from it, and the probe timer. -/
structure ForgetView where
  phase : StartPhase
  straps : Straps
  round : RoundController
  sense : SenseUnit
  sched : Scheduler
  table : NeighbourTable
  roots : List (Option RootEntry)
  ownGeneration : Byte
  announced : Option Claim
  claimSpacing : Timer
  ageSecond : Timer
  working : Station
  hold : Timer
  light : Lighting
  climate : Climate
  memory : ZoneMemory

def State.forgetView (s : State) : ForgetView where
  phase := s.phase
  straps := s.straps
  round := s.round
  sense := s.sense
  sched := { s.sched with probe := none }
  table := s.table
  roots := s.election.roots
  ownGeneration := s.election.ownGeneration
  announced := s.election.announced
  claimSpacing := s.election.claimSpacing
  ageSecond := s.election.ageSecond
  working := s.zone.working
  hold := s.zone.hold
  light := s.light
  climate := s.climate
  memory := s.memory

/-- The table emptied. -/
def ForgetView.emptied (v : ForgetView) : ForgetView :=
  { v with table := { v.table with slots := changeSlots (fun _ => none) 16 v.table.slots } }

/-- The roster of a terminal node emptied. -/
def ForgetView.unrostered (v : ForgetView) : ForgetView :=
  { v with
    climate :=
      { v.climate with roster := if strapField v.straps 10 1 = 1 then List.replicate 24 none else v.climate.roster } }

/-- The zone returned to this node, with the roster of a terminal node emptied where it was another. -/
def ForgetView.returned (v : ForgetView) : ForgetView :=
  { v with
    working := v.memory.nv.stationId
    hold := some (seconds 90)
    climate := if v.working = v.memory.nv.stationId then v.climate else v.unrostered.climate }

theorem ForgetView.returned_own {v : ForgetView} (h : v.working = v.memory.nv.stationId) :
    v.returned = { v with working := v.memory.nv.stationId, hold := some (seconds 90) } := by
  simp only [returned, if_pos h]

theorem ForgetView.returned_other {v : ForgetView} (h : v.working ≠ v.memory.nv.stationId) :
    v.returned = { v.unrostered with working := v.memory.nv.stationId, hold := some (seconds 90) } := by
  simp only [returned, if_neg h]
  rfl

theorem ForgetView.emptied_returned (v : ForgetView) : v.returned.emptied = v.emptied.returned := by
  have htable : ∀ t, { v.returned with table := t } = { v with table := t }.returned := fun _ => rfl
  exact htable _

/-- BRISK entered or extended. -/
def ForgetView.hurried (duration : Nat) (v : ForgetView) : ForgetView :=
  { v with
    sched :=
      { v.sched with
        mode := .brisk
        brisk := if v.sched.mode = .brisk then some (max (v.sched.brisk.getD 0) duration) else some duration } }

theorem clearEntry_cases (s : State) (i : Nat) :
    (slotAt s.table.slots i = none ∧ clearEntry s i = s) ∨
      ∃ e, slotAt s.table.slots i = some e ∧
        ((e.link.isLinked = false ∧ clearEntry s i = s.withSlot i none) ∨
          (e.link.isLinked = true ∧ clearEntry s i = derive (s.withSlot i none))) := by
  unfold clearEntry
  cases he : slotAt s.table.slots i with
  | none => exact .inl ⟨rfl, rfl⟩
  | some e => cases hlink : e.link.isLinked <;> simp [hlink]

theorem clearEntry_table (s : State) (i : Nat) : (clearEntry s i).table = s.table.change (fun _ => none) i := by
  rcases clearEntry_cases s i with ⟨hnone, h⟩ | ⟨e, -, ⟨-, h⟩ | ⟨-, h⟩⟩ <;> rw [h]
  · exact (NeighbourTable.change_none (g := fun _ => none) hnone.symm).symm
  · rfl
  · simp [NeighbourTable.change]

theorem emptyTable_table (s : State) :
    (emptyTable s).table = { s.table with slots := changeSlots (fun _ => none) 16 s.table.slots } :=
  foldl_table clearEntry_table 16 s

/-- What each removal keeps, emptying the table keeps. -/
theorem emptyTable_keeps {P : State → Prop} (h : ∀ x i, P x → P (clearEntry x i)) {s : State} (hs : P s) :
    P (emptyTable s) := foldl_keeps h (List.range 16) hs

/-- All 16 slots emptied. -/
theorem changeSlots_none {α : Type} {slots : List (Option α)} (h : slots.length = 16) :
    changeSlots (fun _ => none) 16 slots = List.replicate 16 none := by
  refine slots_ext (by simp [h]) fun i => ?_
  rw [slotAt_changeSlots rfl]
  by_cases hi : i < 16
  · rw [if_pos hi, slotAt_of_lt (by simpa using hi), List.getElem_replicate]
  · rw [if_neg hi, slotAt_of_le (by omega), slotAt_of_le (by simpa using hi)]

/-- Of the election and the zone, clearing an entry leaves what a derivation leaves. -/
theorem clearEntry_holds (s : State) (i : Nat) :
    (clearEntry s i).election.roots = s.election.roots ∧
    (clearEntry s i).election.ownGeneration = s.election.ownGeneration ∧
    (clearEntry s i).election.announced = s.election.announced ∧
    (clearEntry s i).election.claimSpacing = s.election.claimSpacing ∧
    (clearEntry s i).election.ageSecond = s.election.ageSecond ∧
    (clearEntry s i).zone.working = s.zone.working ∧ (clearEntry s i).zone.hold = s.zone.hold := by
  rcases clearEntry_cases s i with ⟨-, h⟩ | ⟨e, -, ⟨-, h⟩ | ⟨-, h⟩⟩ <;> simp [h]

theorem emptyTable_view (s : State) : (emptyTable s).forgetView = s.forgetView.emptied := by
  have hkept : ∀ (β : Type) (view : State → β), (∀ x i, view (clearEntry x i) = view x) → view (emptyTable s) = view s :=
    fun β view h => foldl_view view clearEntry h _ s
  simp [State.forgetView, ForgetView.emptied, emptyTable_table,
    hkept _ (fun x => x.election.roots) (by simp [clearEntry_holds]),
    hkept _ (fun x => x.election.ownGeneration) (by simp [clearEntry_holds]),
    hkept _ (fun x => x.election.announced) (by simp [clearEntry_holds]),
    hkept _ (fun x => x.election.claimSpacing) (by simp [clearEntry_holds]),
    hkept _ (fun x => x.election.ageSecond) (by simp [clearEntry_holds]),
    hkept _ (fun x => x.zone.working) (by simp [clearEntry_holds]),
    hkept _ (fun x => x.zone.hold) (by simp [clearEntry_holds])]

/-- A zone change without a save: the root moved, the roster of a terminal node emptied, the line by an offer alone. -/
theorem zoneChange_unsaved (root : Station) (s : State) :
    zoneChange root false s = emptyRoster (if s.light.held then offer .presence (s.withZone { s.zone with working := root })
      else s.withZone { s.zone with working := root }) := rfl

/-- The Working Zone Unit after a FORGET, before its zone change where there is one. -/
def State.homeZone (s : State) : State :=
  s.withZone { s.zone with working := s.station, settle := none, hold := some (seconds 90) }

/-- FORGET at the Working Zone Unit: the zone returned, a PRESENCE offered where it was another's and presence is held,
and the roster then emptied. -/
theorem forgetZone_eq (s : State) :
    forgetZone s =
      if s.zone.working = s.station then s.homeZone
      else emptyRoster (if s.light.held then offer .presence s.homeZone else s.homeZone) := by
  by_cases h : s.zone.working = s.station
  · simp only [forgetZone, h, if_true, State.homeZone]
  · simp only [forgetZone, h, if_false, zoneChange_unsaved]
    rfl

theorem emptyRoster_view (s : State) : (emptyRoster s).forgetView = s.forgetView.unrostered := by
  unfold emptyRoster State.terminal
  by_cases h : strapField s.straps 10 1 = 1 <;> simp [h, State.forgetView, ForgetView.unrostered]

theorem offer_forgetView (r : Request) (s : State) : (offer r s).forgetView = s.forgetView := by simp [State.forgetView]

theorem forgetZone_view (s : State) : (forgetZone s).forgetView = s.forgetView.returned := by
  rw [forgetZone_eq]
  by_cases h : s.zone.working = s.station
  · rw [if_pos h, ForgetView.returned_own h]
    rfl
  · have hview : (if s.light.held then offer .presence s.homeZone else s.homeZone).forgetView = s.homeZone.forgetView := by
      split
      · exact offer_forgetView _ _
      · rfl
    rw [if_neg h, emptyRoster_view, hview, ForgetView.returned_other h]
    rfl

theorem enterBrisk_view (d : Nat) (s : State) : (enterBrisk d s).forgetView = s.forgetView.hurried d := by
  rcases enterBrisk_cases d s with ⟨hm, h⟩ | ⟨hm, -, h⟩ | ⟨hm, -, h⟩ <;> rw [h] <;>
    simp [State.forgetView, ForgetView.hurried, hm, reloadForBrisk]

/-- The three blocks change different parts of the view. -/
theorem anyOrder_forgetView (d : Nat) (s : State) :
    (anyOrder emptyTable forgetZone (enterBrisk d) s).forgetView = s.forgetView.emptied.returned.hurried d :=
  anyOrder_commute (view := State.forgetView) (F := ForgetView.emptied) (G := ForgetView.returned)
    (H := ForgetView.hurried d) emptyTable_view forgetZone_view (enterBrisk_view d) (fun _ _ => rfl)
    ForgetView.emptied_returned (fun _ => rfl) (fun _ => rfl) s

/-! ### What the blocks offer (R98, R112, R128) -/

theorem fixHead_quiet {s : State} (h : s.line.idleFour = false) : fixHead s = s := by
  rcases fixHead_cases s with hsame | ⟨-, -, hidle, -⟩
  · exact hsame
  · rw [h] at hidle
    cases hidle

/-- Before the line has been idle for 4 byte times no head is fixed, so that no draw is made. -/
theorem enterOrDisplace_line_congr {s t : State} (hline : s.line = t.line) (hquiet : s.line.idleFour = false) (r : Request) :
    (enterOrDisplace r s).line = (enterOrDisplace r t).line := by
  have hfix : ∀ (l : LineInterface), l.level = s.line.level →
      (fixHead { s with line := l }).line = (fixHead { t with line := l }).line := by
    intro l hlevel
    have hl : l.idleFour = false := by
      simpa only [LineInterface.idleFour, LineInterface.idleFor, hlevel] using hquiet
    rw [fixHead_quiet (s := { s with line := l }) hl, fixHead_quiet (s := { t with line := l }) hl]
  have hdisplace : ∀ (l : LineInterface) (v : Queued), (l.displace v).level = l.level := by
    intro l v
    unfold LineInterface.displace
    split <;> rfl
  unfold enterOrDisplace State.count
  rw [← hline]
  split
  · exact hfix _ rfl
  · cases hv : s.line.victim (rank r) with
    | none => rfl
    | some v => exact hfix _ (hdisplace _ v)

theorem offer_line_congr {s t : State} (hline : s.line = t.line) (hphase : s.phase = t.phase)
    (hquiet : s.line.idleFour = false) (r : Request) : (offer r s).line = (offer r t).line := by
  unfold offer
  rw [← hphase, ← hline]
  split
  · exact hline
  · split
    · split
      · rfl
      · exact hline
    · exact enterOrDisplace_line_congr hline hquiet r

theorem holds_congr {l m : LineInterface} (h : l.queue = m.queue) (r : Request) : l.holds r = m.holds r := by
  rw [LineInterface.holds, h]
  rfl

@[simp] theorem holds_enter (l : LineInterface) (q r : Request) : (l.enter q).holds r = (decide (q = r) || l.holds r) :=
  (enter_spec l q).1.any_eq

@[simp] theorem enter_length (l : LineInterface) (q : Request) : (l.enter q).queue.length = l.queue.length + 1 :=
  (enter_spec l q).1.length_eq

/-- What stands in a queue after a displacement stood there before. -/
theorem holds_displace {l : LineInterface} {v : Queued} {r : Request} (h : (l.displace v).holds r = true) :
    l.holds r = true := by
  have hsub : (l.displace v).queue ⊆ l.queue := by
    unfold LineInterface.displace
    split
    · rename_i hq
      rw [hq]
      exact List.cons_subset_cons _ List.erase_subset
    · exact List.erase_subset
  simp only [LineInterface.holds, List.any_eq_true] at h ⊢
  obtain ⟨q, hq, hr⟩ := h
  exact ⟨q, hsub hq, hr⟩

/-- An offer brings no request of another kind. -/
theorem offer_other {r q : Request} (hne : r ≠ q) {s : State} (h : (offer r s).line.holds q = true) :
    s.line.holds q = true := by
  rcases offer_cases r s with ⟨-, e⟩ | ⟨-, -, -, -, e⟩ | ⟨-, -, e⟩ | ⟨-, -, e⟩ <;> rw [e] at h
  · exact h
  · exact h
  · exact h
  · rcases enterOrDisplace_cases r s with ⟨-, e⟩ | ⟨-, ⟨v, -, e⟩ | ⟨-, e⟩⟩ <;> rw [e] at h
    · rw [holds_congr (fixHead_queue _)] at h
      simpa [hne] using h
    · rw [holds_congr (fixHead_queue _)] at h
      simp only [holds_enter, hne, decide_false, Bool.false_or] at h
      have hcount : ({ s.line with counters := { s.line.counters with queueRefusals := bump s.line.counters.queueRefusals } }
          : LineInterface).holds q = true := holds_displace h
      rwa [holds_congr rfl] at hcount
    · exact h

/-- The queue has room for a CLAIM and for a PRESENCE, those that stand in it counted. -/
def LineInterface.roomy (l : LineInterface) : Prop :=
  l.queue.length ≤ 6 + (l.holds .claim).toNat + (l.holds .presence).toNat

/-- With room, an offer of a CLAIM or of a PRESENCE leaves it standing and displaces nothing. -/
theorem offer_roomy {r : Request} (hr : r = .claim ∨ r = .presence) {s : State} (hrun : s.phase = .running)
    (hroom : s.line.roomy) :
    (offer r s).line.roomy ∧ (offer r s).line.holds r = true ∧
      (s.line.holds .presence = true → (offer r s).line.holds .presence = true) := by
  have honce : heldOnce r = true := by rcases hr with rfl | rfl <;> rfl
  have hqueue : (s.line.holds r = true ∧ (offer r s).line.queue = s.line.queue) ∨
      (s.line.holds r = false ∧ (offer r s).line.queue = (s.line.enter r).queue) := by
    rcases offer_cases r s with ⟨htakes, -⟩ | ⟨-, hholds, -, -, e⟩ | ⟨-, hholds, e⟩ | ⟨-, hholds, e⟩
    · rw [hrun] at htakes
      cases htakes
    · exact .inl ⟨hholds, by rw [e]⟩
    · exact .inl ⟨hholds, by rw [e]⟩
    · have hlt : s.line.queue.length < 8 := by
        have hfree := hholds honce
        unfold LineInterface.roomy at hroom
        rcases hr with rfl | rfl
        · have := Bool.toNat_le (s.line.holds .presence)
          simp only [hfree, Bool.toNat_false] at hroom
          omega
        · have := Bool.toNat_le (s.line.holds .claim)
          simp only [hfree, Bool.toNat_false] at hroom
          omega
      exact .inr ⟨hholds honce, by rw [e, enterOrDisplace, if_pos hlt, fixHead_queue]⟩
  unfold LineInterface.roomy at hroom ⊢
  rcases hqueue with ⟨hholds, hq⟩ | ⟨hfree, hq⟩
  · rw [hq, holds_congr hq, holds_congr hq, holds_congr hq]
    exact ⟨hroom, hholds, id⟩
  · rw [hq, holds_congr hq, holds_congr hq, holds_congr hq, enter_length]
    rcases hr with rfl | rfl
    · simp only [hfree, Bool.toNat_false] at hroom
      simp only [holds_enter]
      simpa using (by omega : s.line.queue.length + 1 ≤ 6 + 1 + (s.line.holds .presence).toNat)
    · simp only [hfree, Bool.toNat_false] at hroom
      simp only [holds_enter]
      simpa using (by omega : s.line.queue.length + 1 ≤ 6 + (s.line.holds .claim).toNat + 1)

/-- A derivation changes the line by a CLAIM offered at most. -/
theorem derive_line (s : State) : (derive s).line = s.line ∨
    ∃ x : State, x.line = s.line ∧ x.phase = s.phase ∧ (derive s).line = (offer .claim x).line := by
  rcases derive_cases s with ⟨-, h⟩ | ⟨-, -, -, h⟩ | ⟨-, -, h⟩
  · exact .inl (by rw [h])
  · exact .inl (by rw [h])
  · rw [h]
    unfold takeDerived
    dsimp only
    generalize hx : rootDuty _ _ _ = x
    have hsame : x.line = s.line ∧ x.phase = s.phase := by
      subst hx
      split <;> simp
    rcases announcementCheck_cases x with ⟨-, -, -, e⟩ | e
    · exact .inr ⟨x, hsame.1, hsame.2, by rw [e]⟩
    · exact .inl (by rw [e, hsame.1])

/-- What an offered CLAIM keeps of the line, emptying the table keeps. -/
theorem emptyTable_line {Q : LineInterface → Prop} {s : State}
    (hclaim : ∀ x : State, x.phase = s.phase → Q x.line → Q (offer .claim x).line) (h : Q s.line) :
    Q (emptyTable s).line := by
  refine (emptyTable_keeps (P := fun x => x.phase = s.phase ∧ Q x.line) (fun x i hx => ?_) ⟨rfl, h⟩).2
  obtain ⟨hphase, hline⟩ := hx
  refine ⟨by simpa using hphase, ?_⟩
  rcases clearEntry_cases x i with ⟨-, e⟩ | ⟨_, -, ⟨-, e⟩ | ⟨-, e⟩⟩ <;> rw [e]
  · exact hline
  · exact hline
  · rcases derive_line (x.withSlot i none) with e | ⟨y, hy, hyp, e⟩ <;> rw [e]
    · exact hline
    · exact hclaim y (hyp.trans hphase) (by rw [hy]; exact hline)

theorem forgetZone_line (s : State) : (forgetZone s).line =
    if s.zone.working ≠ s.station ∧ s.light.held = true then (offer .presence s.homeZone).line else s.line := by
  have hroster : ∀ x, (emptyRoster x).line = x.line := by simp
  rw [forgetZone_eq]
  by_cases h : s.zone.working = s.station
  · rw [if_pos h, if_neg (by simp [h])]
    rfl
  · rw [if_neg h, hroster]
    cases s.light.held <;> simp [h, State.homeZone]

/-! ### A FORGET addressed to this node -/

/-- The FORGET as the blocks take it, Zone Memory first. -/
def State.forgotten (s : State) : State := anyOrder emptyTable forgetZone (enterBrisk (seconds 600)) (forgetRecord s)

theorem forgetRecord_memory (s : State) : (forgetRecord s).memory = { s.memory with
    pendingSave := false, linkHoldOff := none
    engine := if s.memory.engine = .idle then .clearing 0 else s.memory.engine
    pendingClear := s.memory.pendingClear || s.memory.engine.isSaving } := by
  unfold forgetRecord
  cases h : s.memory.engine <;> simp [h, Engine.isSaving]

theorem forgotten_view (s : State) :
    s.forgotten.forgetView = (forgetRecord s).forgetView.emptied.returned.hurried (seconds 600) :=
  anyOrder_forgetView _ _

/-- The view read part by part. -/
theorem forgotten_holds (s : State) :
    (s.forgotten.phase = s.phase ∧ s.forgotten.straps = s.straps ∧ s.forgotten.round = s.round ∧
      s.forgotten.sense = s.sense ∧ s.forgotten.light = s.light) ∧
    s.forgotten.table = { s.table with slots := changeSlots (fun _ => none) 16 s.table.slots } ∧
    (s.forgotten.election.roots = s.election.roots ∧ s.forgotten.election.ownGeneration = s.election.ownGeneration ∧
      s.forgotten.election.announced = s.election.announced ∧
      s.forgotten.election.claimSpacing = s.election.claimSpacing ∧
      s.forgotten.election.ageSecond = s.election.ageSecond) ∧
    s.forgotten.zone.working = s.station ∧ s.forgotten.zone.hold = some (seconds 90) ∧
    s.forgotten.memory = (forgetRecord s).memory := by
  have hview := forgotten_view s
  generalize s.forgotten = t at hview ⊢
  have hstation : (forgetRecord s).memory.nv.stationId = s.station := congrArg Memory.stationId (forgetRecord_nv s)
  simp only [State.forgetView, ForgetView.emptied, ForgetView.returned, ForgetView.hurried, ForgetView.mk.injEq,
    forgetRecord_frame, hstation] at hview
  tauto

/-- The hold runs from the FORGET on, so that no derivation starts a settle after it. -/
theorem derive_settle {s : State} (h : s.zone.hold.isSome = true) : (derive s).zone.settle = s.zone.settle := by
  rcases derive_cases s with ⟨-, e⟩ | ⟨-, -, -, e⟩ | ⟨-, -, e⟩ <;> rw [e]
  unfold takeDerived
  dsimp only
  split <;> simp [handRoot, h]

/-- The hold runs and no settle does. -/
def State.held (s : State) : Prop := s.zone.hold.isSome = true ∧ s.zone.settle = none

theorem clearEntry_held {s : State} (h : s.held) (i : Nat) : (clearEntry s i).held := by
  rcases clearEntry_cases s i with ⟨-, e⟩ | ⟨_, -, ⟨-, e⟩ | ⟨-, e⟩⟩ <;> rw [e]
  · exact h
  · exact h
  · obtain ⟨hhold, hsettle⟩ := h
    exact ⟨by simpa using hhold, (derive_settle (s := s.withSlot i none) hhold).trans hsettle⟩

theorem forgetZone_held (s : State) : (forgetZone s).held := by
  rw [forgetZone_eq]
  (repeat' split) <;> simp [State.homeZone, State.held]

theorem forgotten_settle (s : State) : s.forgotten.zone.settle = none := by
  have hbrisk : ∀ x : State, x.held → (enterBrisk (seconds 600) x).held := by
    intro x hx
    simpa only [State.held, enterBrisk_frame] using hx
  have htable : ∀ x : State, x.held → (emptyTable x).held := by
    intro x hx
    exact emptyTable_keeps (P := State.held) (fun _ i hy => clearEntry_held hy i) hx
  have hheld : s.forgotten.held :=
    anyOrder_reaches (P := State.held) htable hbrisk (fun x n hx => hx) forgetZone_held _
  exact hheld.2

/-! ### The derivation over an emptied table (R82, R90, R91) -/

/-- No entry is linked. -/
def State.unlinked (s : State) : Prop := ∀ e ∈ entriesOf s.table.slots, e.link.isLinked = false

theorem bestCandidate_unlinked {s : State} (h : s.unlinked) : s.bestCandidate = s.ownCandidate := by
  have hnone : (entriesOf s.table.slots).filterMap (candidateOf s.election.roots) = [] := by
    refine List.filterMap_eq_nil_iff.mpr fun e he => ?_
    unfold candidateOf
    cases e.claim <;> simp [h e he]
  simp [State.bestCandidate, State.candidates, hnone]

theorem derive_derived {s : State} (hrun : s.phase = .running) : (derive s).election.derived = s.bestCandidate.claim := by
  rcases derive_cases s with ⟨hphase, -⟩ | ⟨-, hclaim, -, e⟩ | ⟨-, -, e⟩
  · exact absurd hrun hphase
  · rw [e, hclaim]
  · rw [e]
    unfold takeDerived
    dsimp only
    generalize hheld : (if s.election.derived.root = s.bestCandidate.claim.root then _ else _ : State) = held
    have hder : held.election.derived = s.bestCandidate.claim := by
      subst hheld
      split <;> rfl
    rcases rootDuty_cases s.election.derived.root s.bestCandidate.claim.root held with
      ⟨-, e⟩ | ⟨-, -, e⟩ | ⟨-, -, -, e⟩ | ⟨-, -, -, e⟩ <;> simp [e, hder]

/-- While links remain the derived claim may be any; without one it is this node's own. -/
def State.ownsWhenUnlinked (s : State) : Prop :=
  s.phase = .running ∧ (s.unlinked → s.election.derived = ⟨s.station, 0, s.election.ownGeneration⟩)

theorem clearEntry_ownsWhenUnlinked {s : State} (h : s.ownsWhenUnlinked) (i : Nat) : (clearEntry s i).ownsWhenUnlinked := by
  obtain ⟨hrun, hown⟩ := h
  rcases clearEntry_cases s i with ⟨-, e⟩ | ⟨x, hx, ⟨hlink, e⟩ | ⟨-, e⟩⟩ <;> rw [e]
  · exact ⟨hrun, hown⟩
  · refine ⟨hrun, fun hnone => hown fun y hy => ?_⟩
    obtain ⟨j, hj⟩ := mem_entriesOf.mp hy
    by_cases hji : j = i
    · obtain rfl : y = x := Option.some.inj (hj.symm.trans (hji ▸ hx))
      exact hlink
    · refine hnone y (mem_entriesOf.mpr ⟨j, ?_⟩)
      rw [slotAt_withSlot hx, if_neg hji, hj]
  · refine ⟨by simpa using hrun, fun hnone => ?_⟩
    have hunlinked : (s.withSlot i none).unlinked := by simpa [State.unlinked] using hnone
    rw [derive_derived (s := s.withSlot i none) hrun, bestCandidate_unlinked hunlinked]
    simp [State.ownCandidate, State.station]

theorem forgotten_derived {s : State} (hrun : s.phase = .running) (hlen : s.table.slots.length = 16)
    (hlinked : ∃ e ∈ entriesOf s.table.slots, e.link.isLinked = true) :
    s.forgotten.election.derived = ⟨s.station, 0, s.election.ownGeneration⟩ := by
  have hzone : ∀ x : State, x.ownsWhenUnlinked → (forgetZone x).ownsWhenUnlinked := by
    intro x hx
    have hview := forgetZone_view x
    have hmem : (forgetZone x).memory = x.memory := congrArg ForgetView.memory hview
    simpa [State.ownsWhenUnlinked, State.unlinked, State.station, hmem] using hx
  have hbrisk : ∀ x : State, x.ownsWhenUnlinked → (enterBrisk (seconds 600) x).ownsWhenUnlinked := by
    intro x hx
    simpa [State.ownsWhenUnlinked, State.unlinked, State.station] using hx
  have htable : ∀ x : State, x.ownsWhenUnlinked → (emptyTable x).ownsWhenUnlinked := by
    intro x hx
    exact emptyTable_keeps (P := State.ownsWhenUnlinked) (fun _ i hy => clearEntry_ownsWhenUnlinked hy i) hx
  have hstart : (forgetRecord s).ownsWhenUnlinked := by
    refine ⟨by simpa using hrun, fun hnone => ?_⟩
    obtain ⟨e, he, hlink⟩ := hlinked
    have hne := hnone e (by simpa using he)
    rw [hlink] at hne
    cases hne
  have hkept : s.forgotten.ownsWhenUnlinked :=
    anyOrder_keeps (P := State.ownsWhenUnlinked) htable hzone hbrisk (fun _ _ hx => hx) hstart
  obtain ⟨-, htab, ⟨-, hgen, -⟩, -, -, hmem⟩ := forgotten_holds s
  have hempty : s.forgotten.unlinked := by
    intro e he
    obtain ⟨j, hj⟩ := mem_entriesOf.mp he
    rw [htab, changeSlots_none hlen] at hj
    have hlt : j < 16 := by simpa using lt_of_slotAt hj
    rw [slotAt_of_lt (by simpa using hlt), List.getElem_replicate] at hj
    cases hj
  have hstation : s.forgotten.station = s.station := by
    simp only [State.station, hmem, forgetRecord_nv]
  rw [hkept.2 hempty, hgen, hstation]

/-! ### The line of a FORGET (R112, R128) -/

/-- The line with the PRESENCE of a zone change, where FORGET makes one and presence is held. -/
def State.lineOffered (s : State) : LineInterface :=
  (if s.zone.working ≠ s.station ∧ s.light.held = true then offer .presence s else s).line

/-- Nothing linked is removed, so that the line changes by the zone change alone. -/
def State.OffersPresence (s x : State) : Prop :=
  x.unlinked ∧ x.phase = s.phase ∧ x.light = s.light ∧ x.station = s.station ∧
    ((x.zone.working = s.zone.working ∧ x.line = s.line) ∨ (x.zone.working = s.station ∧ x.line = s.lineOffered))

theorem clearEntry_offersPresence {s x : State} (h : s.OffersPresence x) (i : Nat) : s.OffersPresence (clearEntry x i) := by
  obtain ⟨hunlinked, hrest⟩ := h
  rcases clearEntry_cases x i with ⟨-, e⟩ | ⟨y, hy, ⟨-, e⟩ | ⟨hlink, -⟩⟩
  · rw [e]
    exact ⟨hunlinked, hrest⟩
  · rw [e]
    refine ⟨fun z hz => ?_, hrest⟩
    obtain ⟨j, hj⟩ := mem_entriesOf.mp hz
    rw [slotAt_withSlot hy] at hj
    split at hj
    · cases hj
    · exact hunlinked z (mem_entriesOf.mpr ⟨j, hj⟩)
  · rw [hunlinked y (mem_entriesOf.mpr ⟨i, hy⟩)] at hlink
    cases hlink

/-- What FORGET at the Working Zone Unit leaves, but for the line and the climate. -/
theorem forgetZone_holds (s : State) :
    (forgetZone s).table = s.table ∧ (forgetZone s).phase = s.phase ∧ (forgetZone s).light = s.light ∧
    (forgetZone s).station = s.station ∧ (forgetZone s).zone.working = s.station := by
  have hview := forgetZone_view s
  refine ⟨by simp, by simp, by simp, congrArg (fun v => v.memory.nv.stationId) hview, congrArg ForgetView.working hview⟩

theorem forgetZone_offersPresence {s x : State} (hquiet : s.line.idleFour = false) (h : s.OffersPresence x) :
    s.OffersPresence (forgetZone x) := by
  obtain ⟨hunlinked, hphase, hlight, hstation, hline⟩ := h
  obtain ⟨ht, hp, hl, hst, hw⟩ := forgetZone_holds x
  refine ⟨by rwa [State.unlinked, ht], hp.trans hphase, hl.trans hlight, hst.trans hstation, .inr ⟨hw.trans hstation, ?_⟩⟩
  rw [forgetZone_line, hlight, hstation]
  rcases hline with ⟨hworking, hline⟩ | ⟨hworking, hline⟩
  · have hoffer : (offer .presence x.homeZone).line = (offer .presence s).line :=
      (offer_line_congr (t := x.homeZone) hline.symm hphase.symm hquiet .presence).symm
    rw [hworking, hoffer, hline, State.lineOffered]
    split <;> rfl
  · rw [hworking, if_neg (fun hne => hne.1 rfl), hline]

theorem forgotten_line_unlinked {s : State} (hquiet : s.line.idleFour = false) (hunlinked : s.unlinked) :
    s.forgotten.line = s.lineOffered := by
  have hbrisk : ∀ x : State, s.OffersPresence x → s.OffersPresence (enterBrisk (seconds 600) x) := by
    intro x hx
    simpa only [State.OffersPresence, State.unlinked, State.station, enterBrisk_frame] using hx
  have htable : ∀ x : State, s.OffersPresence x → s.OffersPresence (emptyTable x) := by
    intro x hx
    exact emptyTable_keeps (P := s.OffersPresence) (fun _ i hy => clearEntry_offersPresence hy i) hx
  have hstart : s.OffersPresence (forgetRecord s) := by
    refine ⟨by simpa only [State.unlinked, forgetRecord_frame] using hunlinked, by simp, by simp, ?_, .inl (by simp)⟩
    simp only [State.station, forgetRecord_nv]
  have hkept : s.OffersPresence s.forgotten :=
    anyOrder_keeps (P := s.OffersPresence) htable (fun _ hx => forgetZone_offersPresence hquiet hx) hbrisk
      (fun _ _ hx => hx) hstart
  obtain ⟨-, -, -, -, ⟨hworking, hline⟩ | ⟨-, hline⟩⟩ := hkept
  · obtain ⟨-, -, -, hown, -⟩ := forgotten_holds s
    rw [hline, State.lineOffered, if_neg]
    exact fun hne => hne.1 (hworking.symm.trans hown)
  · exact hline

/-- What emptying the table leaves, but for the line, the table and the election. -/
theorem emptyTable_holds (s : State) :
    (emptyTable s).phase = s.phase ∧ (emptyTable s).light = s.light ∧ (emptyTable s).station = s.station ∧
    (emptyTable s).zone.working = s.zone.working := by
  have hview := emptyTable_view s
  generalize emptyTable s = t at hview ⊢
  exact ⟨congrArg ForgetView.phase hview, congrArg ForgetView.light hview,
    congrArg (fun v => v.memory.nv.stationId) hview, congrArg ForgetView.working hview⟩

/-- With room in the queue, a PRESENCE stands in it from the zone change on. -/
def State.presenceStands (s : State) : Prop :=
  s.phase = .running ∧ s.light.held = true ∧ s.line.roomy ∧
    (s.zone.working = s.station → s.line.holds .presence = true)

theorem emptyTable_presenceStands {s : State} (h : s.presenceStands) : (emptyTable s).presenceStands := by
  obtain ⟨hrun, hheld, hroom, hstands⟩ := h
  have hholds := emptyTable_holds s
  have hline : (emptyTable s).line.roomy ∧ (s.line.holds .presence = true → (emptyTable s).line.holds .presence = true) := by
    refine emptyTable_line (Q := fun l => l.roomy ∧ (s.line.holds .presence = true → l.holds .presence = true))
      (fun x hx hQ => ?_) ⟨hroom, id⟩
    obtain ⟨hxroom, hxstands⟩ := hQ
    obtain ⟨hroom', -, hkept⟩ := offer_roomy (.inl rfl) (hx.trans hrun) hxroom
    exact ⟨hroom', fun hp => hkept (hxstands hp)⟩
  generalize emptyTable s = t at hholds hline ⊢
  obtain ⟨hphase, hlight, hstation, hworking⟩ := hholds
  exact ⟨hphase.trans hrun, by rwa [hlight], hline.1, fun hown => hline.2 (hstands (by rwa [hworking, hstation] at hown))⟩

theorem forgetZone_presenceStands {s : State} (h : s.presenceStands) : (forgetZone s).presenceStands := by
  obtain ⟨hrun, hheld, hroom, hstands⟩ := h
  obtain ⟨-, hphase, hlight, -, -⟩ := forgetZone_holds s
  have hline : (forgetZone s).line.roomy ∧ (forgetZone s).line.holds .presence = true := by
    rw [forgetZone_line]
    by_cases hown : s.zone.working = s.station
    · rw [if_neg (fun hne => hne.1 hown)]
      exact ⟨hroom, hstands hown⟩
    · rw [if_pos ⟨hown, hheld⟩]
      obtain ⟨hroom', hpresence, -⟩ := offer_roomy (r := .presence) (s := s.homeZone) (.inr rfl) hrun hroom
      exact ⟨hroom', hpresence⟩
  exact ⟨hphase.trans hrun, by rwa [hlight], hline.1, fun _ => hline.2⟩

theorem forgotten_presence {s : State} (hrun : s.phase = .running) (hheld : s.light.held = true)
    (hother : s.zone.working ≠ s.station)
    (hroom : s.line.queue.length ≤ 6 ∨ (s.line.holds .presence = true ∧ s.line.queue.length ≤ 7)) :
    s.forgotten.line.holds .presence = true := by
  have hbrisk : ∀ x : State, x.presenceStands → (enterBrisk (seconds 600) x).presenceStands := by
    intro x hx
    simpa only [State.presenceStands, State.station, enterBrisk_frame] using hx
  have hstart : (forgetRecord s).presenceStands := by
    refine ⟨by simpa using hrun, by simpa using hheld, ?_, fun hown => ?_⟩
    · simp only [LineInterface.roomy, forgetRecord_frame]
      rcases hroom with hlen | ⟨hholds, hlen⟩
      · omega
      · rw [hholds, Bool.toNat_true]
        omega
    · simp only [State.station, forgetRecord_frame, forgetRecord_nv] at hown
      exact absurd hown hother
  have hkept : s.forgotten.presenceStands :=
    anyOrder_keeps (P := State.presenceStands) (fun _ hx => emptyTable_presenceStands hx)
      (fun _ hx => forgetZone_presenceStands hx) hbrisk (fun _ _ hx => hx) hstart
  obtain ⟨-, -, -, hstands⟩ := hkept
  obtain ⟨-, -, -, hown, -, hmem⟩ := forgotten_holds s
  exact hstands (by simp only [hown, State.station, hmem, forgetRecord_nv])

/-- Without a zone change, or where presence is not held, no PRESENCE is new. -/
def State.noNewPresence (s x : State) : Prop :=
  (x.zone.working = x.station ∨ x.light.held = false) ∧
    (x.line.holds .presence = true → s.line.holds .presence = true)

theorem forgotten_noPresence {s : State} (h : ¬ (s.zone.working ≠ s.station ∧ s.light.held = true)) :
    s.forgotten.line.holds .presence = true → s.line.holds .presence = true := by
  have hbrisk : ∀ x : State, s.noNewPresence x → s.noNewPresence (enterBrisk (seconds 600) x) := by
    intro x hx
    simpa only [State.noNewPresence, State.station, enterBrisk_frame] using hx
  have htable : ∀ x : State, s.noNewPresence x → s.noNewPresence (emptyTable x) := by
    rintro x ⟨hnone, hline⟩
    obtain ⟨-, hlight, hstation, hworking⟩ := emptyTable_holds x
    refine ⟨by rwa [hlight, hstation, hworking], ?_⟩
    exact emptyTable_line (Q := fun l => l.holds .presence = true → s.line.holds .presence = true)
      (fun y _ hy hholds => hy (offer_other (by decide) hholds)) hline
  have hzone : ∀ x : State, s.noNewPresence x → s.noNewPresence (forgetZone x) := by
    rintro x ⟨hnone, hline⟩
    obtain ⟨-, -, -, hstation, hworking⟩ := forgetZone_holds x
    refine ⟨.inl (hworking.trans hstation.symm), ?_⟩
    rw [forgetZone_line, if_neg]
    · exact hline
    · rintro ⟨hother, hheld⟩
      rcases hnone with hown | hno
      · exact hother hown
      · rw [hheld] at hno
        cases hno
  have hstart : s.noNewPresence (forgetRecord s) := by
    refine ⟨?_, by simp⟩
    simp only [State.station, forgetRecord_frame, forgetRecord_nv]
    rw [State.station] at h
    simpa [or_iff_not_imp_left] using h
  have hkept : s.noNewPresence s.forgotten :=
    anyOrder_keeps (P := s.noNewPresence) htable hzone hbrisk (fun _ _ hx => hx) hstart
  exact hkept.2

theorem forgotten_sched (s : State) :
    s.forgotten.sched.mode = .brisk ∧ (∃ left ∈ s.forgotten.sched.brisk, seconds 600 ≤ left) ∧
    s.forgotten.sched.state = s.sched.state ∧ s.forgotten.sched.wait = s.sched.wait ∧
    s.forgotten.sched.deadline = s.sched.deadline ∧ s.forgotten.sched.retry = s.sched.retry := by
  have hview := congrArg ForgetView.sched (forgotten_view s)
  generalize s.forgotten = t at hview ⊢
  simp only [State.forgetView, ForgetView.emptied, ForgetView.returned, ForgetView.hurried, forgetRecord_frame,
    Scheduler.mk.injEq, true_and] at hview
  obtain ⟨hmode, hbrisk, hstate, hwait, hdeadline, hretry⟩ := hview
  refine ⟨hmode, ?_, hstate, hwait, hdeadline, hretry⟩
  rw [hbrisk]
  split
  · exact ⟨_, rfl, Nat.le_max_right _ _⟩
  · exact ⟨_, rfl, le_rfl⟩

theorem forgotten_climate (s : State) :
    s.forgotten.climate = { s.climate with
      roster := if s.zone.working ≠ s.station ∧ s.terminal = true then List.replicate 24 none else s.climate.roster } := by
  have hview := congrArg ForgetView.climate (forgotten_view s)
  have hstation : (forgetRecord s).memory.nv.stationId = s.station := congrArg Memory.stationId (forgetRecord_nv s)
  generalize s.forgotten = t at hview ⊢
  simp only [State.forgetView, ForgetView.emptied, ForgetView.returned, ForgetView.hurried, ForgetView.unrostered,
    forgetRecord_frame, hstation] at hview
  rw [hview]
  by_cases hown : s.zone.working = s.station
  · simp [hown]
  · simp [hown, State.terminal]

/-- Settles O51: to another it is ignored; addressed to this node, each clause as the three blocks leave it in any order. -/
theorem forgetClearsTheTableTheZoneAndTheRecord : Obligations.ForgetClearsTheTableTheZoneAndTheRecord := by
  intro sender target s h hsender
  have hexec : exec (.forget sender target) s = .next (takeForget target s.atNoticeEnd) :=
    congrArg _ (receive_of_inRange h (n := ⟨sender, .forget target⟩) rfl ⟨hsender, rfl⟩)
  refine ⟨fun hother => ?_, fun hown hlen => ?_⟩
  · rw [hexec, takeForget, if_neg (show target ≠ s.atNoticeEnd.station from hother)]
  · refine ⟨s.atNoticeEnd.forgotten, ?_, ?_⟩
    · rw [hexec, takeForget, if_pos (show target = s.atNoticeEnd.station from hown)]
      rfl
    have hquiet : s.atNoticeEnd.line.idleFour = false := rfl
    obtain ⟨hparts, htable, ⟨hroots, hgen, hann, hspacing, hage⟩, hworking, hhold, hmem⟩ := forgotten_holds s.atNoticeEnd
    obtain ⟨hmode, hbrisk, hstate, hwait, hdeadline, hretry⟩ := forgotten_sched s.atNoticeEnd
    refine ⟨?_, hworking, forgotten_settle _, hhold, hmode, hbrisk, hstate, hwait, hdeadline, hretry, ?_, hroots, hage, hgen,
      hann, hspacing, fun hrun hlinked => forgotten_derived hrun hlen hlinked, forgotten_climate _, ?_, hparts⟩
    · rw [htable, changeSlots_none (show s.atNoticeEnd.table.slots.length = 16 from hlen)]
      rfl
    · rw [hmem, forgetRecord_memory]
      rfl
    · exact ⟨fun hunlinked => forgotten_line_unlinked hquiet hunlinked,
        fun hoffered hrun hroom => forgotten_presence hrun hoffered.2 hoffered.1 hroom, fun hnone => forgotten_noPresence hnone⟩

end Sys2Proof.Machine

/-! SUPPORT. The zone record restored at the end of the oscillator wait (R59, R60, R108, R185, R195). -/

namespace Sys2Proof.Machine

-- One thread, as above: a thread per theorem exceeds the memory limit of the check.
set_option Elab.async false

/-! ### The stations restored (R60) -/

/-- The entry that a link position is restored as. -/
def restoredEntry (i : Station) : Entry := ⟨i, none, none, none, .resumed, none, 0⟩

/-- The slots with so many stations restored, in the lowest slots in this order. -/
def restoredSlots (taken : List Station) : List (Option Entry) :=
  taken.map (fun i => some (restoredEntry i)) ++ List.replicate (16 - taken.length) none

/-- The stations restored, after a further link position. -/
def State.alsoRestored (s : State) (taken : List Station) (x : Station × Half) : List Station :=
  if isNode x.1 = true ∧ x.1 ≠ s.station ∧ (x.2 = 0xFFFF ∨ (thresholds s.sensClass).2 ≤ x.2.toNat) ∧ x.1 ∉ taken
  then taken ++ [x.1] else taken

theorem restoredSlots_length {taken : List Station} (h : taken.length ≤ 16) : (restoredSlots taken).length = 16 := by
  simp [restoredSlots, h]

theorem entriesOf_restoredSlots (taken : List Station) : entriesOf (restoredSlots taken) = taken.map restoredEntry := by
  have hnone : (List.replicate (16 - taken.length) (none : Option Entry)).filterMap id = [] :=
    List.filterMap_eq_nil_iff.mpr fun x hx => List.eq_of_mem_replicate hx
  rw [entriesOf, restoredSlots, List.filterMap_append, hnone, List.append_nil, List.filterMap_map]
  exact congrFun List.filterMap_eq_map taken

theorem emptySlot_restoredSlots {taken : List Station} (h : taken.length < 16) :
    emptySlot (restoredSlots taken) = some taken.length := by
  have hlen := restoredSlots_length (Nat.le_of_lt h)
  refine emptySlot_eq_some_iff.mpr ⟨by omega, ?_, fun n hn => ?_⟩
  · rw [slotAt_of_lt (by omega)]
    simp [restoredSlots, List.getElem_append_right]
  · rw [slotAt_of_lt (by omega)]
    simp [restoredSlots, List.getElem_append_left, hn]

theorem restoredSlots_set {taken : List Station} (h : taken.length < 16) (i : Station) :
    (restoredSlots taken).set taken.length (some (restoredEntry i)) = restoredSlots (taken ++ [i]) := by
  have hone : 16 - taken.length = 16 - (taken ++ [i]).length + 1 := by
    rw [List.length_append, List.length_singleton]
    omega
  rw [restoredSlots, hone, List.replicate_succ]
  simp [restoredSlots]

/-- A link position read over a table that holds the stations restored before it. -/
theorem restoreLink_eq {s : State} {taken : List Station} (hslots : s.table.slots = restoredSlots taken)
    (hlen : taken.length < 16) (x : Station × Half) :
    restoreLink s x = s.withSlots (restoredSlots (s.alsoRestored taken x)) := by
  have hholds : s.tableHolds x.1 = true ↔ x.1 ∈ taken := by
    rw [tableHolds_iff, hslots, entriesOf_restoredSlots]
    simp [restoredEntry]
  have hcond : ((x.2 ≠ 0xFFFF ∧ x.2.toNat < (thresholds s.sensClass).2) ∨ ¬ isNode x.1 = true ∨ x.1 = s.station ∨
      s.tableHolds x.1 = true) ↔ ¬ (isNode x.1 = true ∧ x.1 ≠ s.station ∧
        (x.2 = 0xFFFF ∨ (thresholds s.sensClass).2 ≤ x.2.toNat) ∧ x.1 ∉ taken) := by
    rw [hholds, ← Nat.not_lt]
    tauto
  unfold restoreLink State.alsoRestored
  by_cases hpassed : isNode x.1 = true ∧ x.1 ≠ s.station ∧
      (x.2 = 0xFFFF ∨ (thresholds s.sensClass).2 ≤ x.2.toNat) ∧ x.1 ∉ taken
  · rw [if_neg (fun h => hcond.mp h hpassed), if_pos hpassed, hslots, emptySlot_restoredSlots hlen]
    simp only [withSlot_eq, hslots]
    rw [← restoredSlots_set hlen]
    rfl
  · rw [if_pos (hcond.mpr hpassed), if_neg hpassed, ← hslots]
    rfl

theorem alsoRestored_length (s : State) (taken : List Station) (x : Station × Half) :
    (s.alsoRestored taken x).length ≤ taken.length + 1 := by
  unfold State.alsoRestored
  split <;> simp

theorem foldl_restoreLink (links : List (Station × Half)) {s : State} {taken : List Station}
    (hslots : s.table.slots = restoredSlots taken) (hlen : taken.length + links.length ≤ 16) :
    links.foldl restoreLink s = s.withSlots (restoredSlots (links.foldl s.alsoRestored taken)) ∧
      (links.foldl s.alsoRestored taken).length ≤ 16 := by
  induction links generalizing s taken with
  | nil =>
    refine ⟨?_, by simpa using hlen⟩
    rw [List.foldl_nil, List.foldl_nil, ← hslots]
    rfl
  | cons x rest ih =>
    rw [List.length_cons] at hlen
    have hmore := alsoRestored_length s taken x
    rw [List.foldl_cons, List.foldl_cons, restoreLink_eq hslots (by omega)]
    exact ih (s := s.withSlots (restoredSlots (s.alsoRestored taken x))) rfl (by omega)

theorem mem_alsoRestored (s : State) (i : Station) (taken : List Station) (x : Station × Half) :
    i ∈ s.alsoRestored taken x ↔ i ∈ taken ∨ (i = x.1 ∧ isNode i = true ∧ i ≠ s.station ∧
      (x.2 = 0xFFFF ∨ (thresholds s.sensClass).2 ≤ x.2.toNat)) := by
  unfold State.alsoRestored
  split
  · rename_i h
    rw [List.mem_append, List.mem_singleton]
    constructor
    · rintro (hi | rfl)
      · exact .inl hi
      · exact .inr ⟨rfl, h.1, h.2.1, h.2.2.1⟩
    · rintro (hi | ⟨rfl, -⟩)
      · exact .inl hi
      · exact .inr rfl
  · rename_i h
    constructor
    · exact .inl
    · rintro (hi | ⟨rfl, hnode, hother, hvalue⟩)
      · exact hi
      · by_contra hnew
        exact h ⟨hnode, hother, hvalue, hnew⟩

/-- A link position is passed over unless it names another node with a pair value that keeps a link. -/
theorem mem_foldl_alsoRestored (s : State) (i : Station) (links : List (Station × Half)) (taken : List Station) :
    i ∈ links.foldl s.alsoRestored taken ↔ i ∈ taken ∨ (isNode i = true ∧ i ≠ s.station ∧
      ∃ v, (i, v) ∈ links ∧ (v = 0xFFFF ∨ (thresholds s.sensClass).2 ≤ v.toNat)) := by
  induction links generalizing taken with
  | nil => simp
  | cons x rest ih =>
    obtain ⟨j, w⟩ := x
    rw [List.foldl_cons, ih, mem_alsoRestored]
    by_cases hij : i = j
    · subst hij
      simp only [List.mem_cons, Prod.mk.injEq, true_and, or_and_right, exists_or, exists_eq_left]
      rw [or_assoc, ← and_or_left, ← and_or_left]
    · simp [hij]

/-! ### The record handed on (R185) -/

theorem clampInt_toNat {low high : Nat} (h : low ≤ high) (v : Nat) :
    (clampInt low high v).toNat = max low (min high v) := by
  unfold clampInt
  split
  · omega
  · split <;> omega

theorem clampInt_eq {low high : Int} (h : low ≤ high) (v : Int) : clampInt low high v = max low (min high v) := by
  unfold clampInt
  split
  · omega
  · split <;> omega

/-- A good record has as many link positions as its link count, at most 16. -/
theorem recordLinks_length {m : Memory} (h : m.goodRecord = true) : m.recordLinks.length ≤ 16 := by
  simp only [Memory.goodRecord, Bool.and_eq_true, decide_eq_true_eq] at h
  obtain ⟨⟨-, hcount⟩, -⟩ := h
  simpa [Memory.recordLinks] using hcount

/-- The values of a good record taken, before its link positions are read. -/
def State.recordValuesTaken (s : State) : State :=
  { s with
    zone := { s.zone with
      working := if isNode s.memory.nv.recordWorking = true ∧ s.memory.nv.recordWorking ≤ s.station
        then s.memory.nv.recordWorking else s.station }
    climate := { s.climate with
      setpoint := max 150 (min 300 s.memory.nv.recordSetpoint), setback := min 60 s.memory.nv.recordSetback }
    light := { s.light with task := min 1000 s.memory.nv.recordTask } }

theorem restoreRecord_good {s : State} (h : s.memory.nv.goodRecord = true) :
    restoreRecord s = s.memory.nv.recordLinks.foldl restoreLink s.recordValuesTaken := by
  have hsetpoint : clampInt 150 300 s.memory.nv.recordSetpoint = max 150 (min 300 s.memory.nv.recordSetpoint) :=
    clampInt_eq (by decide) _
  have hsetback : (clampInt 0 60 s.memory.nv.recordSetback).toNat = min 60 s.memory.nv.recordSetback :=
    (clampInt_toNat (low := 0) (high := 60) (by decide) _).trans (Nat.zero_max _)
  have htask : (clampInt 0 1000 s.memory.nv.recordTask).toNat = min 1000 s.memory.nv.recordTask :=
    (clampInt_toNat (low := 0) (high := 1000) (by decide) _).trans (Nat.zero_max _)
  have hroot : s.restoredRoot = if isNode s.memory.nv.recordWorking = true ∧ s.memory.nv.recordWorking ≤ s.station
      then s.memory.nv.recordWorking else s.station := by
    simp [State.restoredRoot]
  simp only [restoreRecord, h, if_true, hroot, hsetpoint, hsetback, htask]
  rfl

/-- Settles O7: without a good record nothing is restored; of a good one the values are taken and the links in order. -/
theorem oscillatorWaitEndRestoresAGoodRecord : Obligations.OscillatorWaitEndRestoresAGoodRecord := by
  intro s hphase nv restored stations
  have hexec : exec .oscillatorWaitEnd s = .next (readPages s) := by
    simp only [exec, execOscillatorWaitEnd, hphase, if_true]
  refine ⟨fun hbad => ?_, fun hgood hempty => ?_⟩
  · rw [hexec, readPages, restoreRecord]
    exact congrArg _ (if_neg (by simpa using hbad))
  · let started : State :=
      { s with phase := .restored, rng := lfsrSeed s.station, zone := { s.zone with hold := some (seconds 90) } }
    obtain ⟨hfold, hlen⟩ := foldl_restoreLink nv.recordLinks (s := started.recordValuesTaken) (taken := []) hempty
      (by simpa using recordLinks_length hgood)
    refine ⟨restoredSlots stations, ?_, restoredSlots_length hlen, rfl, fun i => ?_, fun e he => ?_⟩
    · rw [hexec, readPages, restoreRecord_good (s := started) hgood]
      exact congrArg _ hfold
    · rw [entriesOf_restoredSlots]
      have hmem := mem_foldl_alsoRestored s i nv.recordLinks []
      simp only [List.not_mem_nil, false_or] at hmem
      constructor
      · intro hi
        exact ⟨restoredEntry i, List.mem_map.mpr ⟨i, hmem.mpr hi, rfl⟩, rfl⟩
      · rintro ⟨e, he, rfl⟩
        obtain ⟨j, hj, rfl⟩ := List.mem_map.mp he
        exact hmem.mp hj
    · rw [entriesOf_restoredSlots] at he
      obtain ⟨i, -, rfl⟩ := List.mem_map.mp he
      rfl

end Sys2Proof.Machine

/-! SUPPORT. Every command keeps the Neighbour Table sound (R58, R72). -/

namespace Sys2Proof.Machine

-- One thread, as above: a thread per theorem exceeds the memory limit of the check.
set_option Elab.async false

/-! ### The table read slot by slot (R58) -/

/-- 16 slots of sound entries, no station in two of them. -/
structure SlotsSound (own : Station) (slots : List (Option Entry)) : Prop where
  length : slots.length = 16
  entry : ∀ i e, slotAt slots i = some e → entrySound own e
  distinct : ∀ i j e f, slotAt slots i = some e → slotAt slots j = some f → e.station = f.station → i = j

/-- SUSPECT exactly at a suspect count of 3. -/
def NeighbourTable.HealthSound (t : NeighbourTable) : Prop := t.suspect ≤ 3 ∧ (t.sensor = .suspect ↔ t.suspect = 3)

theorem tableSound_iff (s : State) : s.TableSound ↔ SlotsSound s.station s.table.slots ∧ s.table.HealthSound := by
  have hentries : (∀ e ∈ entriesOf s.table.slots, entrySound s.station e) ↔
      ∀ i e, slotAt s.table.slots i = some e → entrySound s.station e :=
    ⟨fun h i e he => h e (mem_entriesOf.mpr ⟨i, he⟩), fun h e he => by
      obtain ⟨i, hi⟩ := mem_entriesOf.mp he
      exact h i e hi⟩
  rw [State.TableSound, hentries, nodup_entries_iff]
  constructor
  · rintro ⟨hlen, hentry, hdistinct, hhealth⟩
    exact ⟨⟨hlen, hentry, hdistinct⟩, hhealth⟩
  · rintro ⟨⟨hlen, hentry, hdistinct⟩, hhealth⟩
    exact ⟨hlen, hentry, hdistinct, hhealth⟩

namespace SlotsSound

variable {own : Station} {slots other : List (Option Entry)}

/-- Empty slots are sound. -/
theorem empty (own : Station) : SlotsSound own (List.replicate 16 none) := by
  have hnone : ∀ i e, slotAt (List.replicate 16 (none : Option Entry)) i ≠ some e := by
    intro i e he
    have hi := lt_of_slotAt he
    rw [slotAt_of_lt hi, List.getElem_replicate] at he
    cases he
  exact ⟨by simp, fun i e he => absurd he (hnone i e), fun i j e f he => absurd he (hnone i e)⟩

/-- Slots each of which is empty, or holds a sound entry of the station it held. -/
theorem of_slots (h : SlotsSound own slots) (hlen : other.length = slots.length)
    (hold : ∀ i e, slotAt other i = some e → entrySound own e ∧ ∃ f, slotAt slots i = some f ∧ f.station = e.station) :
    SlotsSound own other := by
  obtain ⟨hsixteen, -, hunique⟩ := h
  refine ⟨hlen.trans hsixteen, fun i e he => (hold i e he).1, fun i j e f he hf hkey => ?_⟩
  obtain ⟨-, x, hx, hxe⟩ := hold i e he
  obtain ⟨-, y, hy, hyf⟩ := hold j f hf
  exact hunique i j x y hx hy (hxe.trans (hkey.trans hyf.symm))

/-- A slot written with a sound entry of a station that no other slot holds. -/
theorem set (h : SlotsSound own slots) {i : Nat} {e : Entry} (he : entrySound own e)
    (hnew : ∀ j f, j ≠ i → slotAt slots j = some f → f.station ≠ e.station) : SlotsSound own (slots.set i (some e)) := by
  by_cases hi : i < slots.length
  · obtain ⟨hsixteen, hsound, hunique⟩ := h
    refine ⟨by simpa using hsixteen, fun j f hf => ?_, fun j k f g hf hg hkey => ?_⟩
    · rw [slotAt_set _ _ _ _ hi] at hf
      split at hf
      · exact Option.some.inj hf ▸ he
      · exact hsound j f hf
    · rw [slotAt_set _ _ _ _ hi] at hf hg
      split at hf <;> split at hg
      · rename_i hj hk
        exact hj.trans hk.symm
      · rename_i hk
        exact absurd (hkey.symm.trans (congrArg Entry.station (Option.some.inj hf)).symm) (hnew k g hk hg)
      · rename_i hj _
        exact absurd (hkey.trans (congrArg Entry.station (Option.some.inj hg)).symm) (hnew j f hj hf)
      · exact hunique j k f g hf hg hkey
  · rwa [List.set_eq_of_length_le (Nat.le_of_not_lt hi)]

/-- A held entry replaced by a sound one of its station. -/
theorem replace (h : SlotsSound own slots) {i : Nat} {e f : Entry} (hf : slotAt slots i = some f)
    (he : entrySound own e) (hstation : e.station = f.station) : SlotsSound own (slots.set i (some e)) :=
  h.set he fun j g hj hg heq => hj (h.distinct j i g f hg hf (heq.trans hstation))

end SlotsSound

/-! ### What the operations make of an entry -/

section Entries

variable {own : Station} {e : Entry}

theorem entrySound_withTold (h : entrySound own e) {v : Nat} (hv : v ≤ 4095) : entrySound own (e.withTold v) := by
  obtain ⟨hnode, hother, hseen, hprevious, -, hclaim, -⟩ := h
  refine ⟨hnode, hother, hseen, hprevious, ?_, hclaim, by simp [Entry.withTold]⟩
  rintro _ ⟨⟩
  exact hv

theorem entrySound_withSeen (h : entrySound own e) {k : Nat} (hk : k ≤ 4095) : entrySound own (e.withSeen k) := by
  obtain ⟨hnode, hother, hseen, -, htold, hclaim, -⟩ := h
  refine ⟨hnode, hother, ?_, hseen, htold, hclaim, by simp [Entry.withSeen]⟩
  rintro _ ⟨⟩
  exact hk

theorem entrySound_linkMoved (s : State) (h : entrySound own e) : entrySound own (s.linkMoved e) := h

theorem entrySound_claimed (h : entrySound own e) {c : Claim} (hc : c.hops ≤ 15) :
    entrySound own { e with claim := some c } := by
  obtain ⟨hnode, hother, hseen, hprevious, htold, -, hquiet⟩ := h
  refine ⟨hnode, hother, hseen, hprevious, htold, ?_, hquiet⟩
  rintro _ ⟨⟩
  exact hc

/-- An entry that ageing leaves has a quiet of 14 or less, and is of the same station. -/
theorem entrySound_aged {f : Entry} (h : entrySound own f) (he : agedEntry f = some e) :
    entrySound own e ∧ f.station = e.station := by
  obtain ⟨hnode, hother, hseen, hprevious, htold, hclaim, -⟩ := h
  unfold agedEntry at he
  split at he
  · cases he
  · rename_i hyoung
    cases he
    exact ⟨⟨hnode, hother, hseen, hprevious, htold, hclaim, by dsimp only; omega⟩, rfl⟩

theorem entrySound_new {station : Station} (hnode : isNode station = true) (hother : station ≠ own) (half : MeasuredHalf)
    {v : Nat} (hv : v ≤ 4095) : entrySound own (newEntry station half v) := by
  have hhalf : ∀ p : Prop, ∀ [Decidable p], halfInRange (if p then some v else none) := by
    intro p _ k hk
    split at hk
    · cases hk
      exact hv
    · cases hk
  exact ⟨hnode, hother, hhalf _, by simp [newEntry, halfInRange], hhalf _, by simp [newEntry], Nat.zero_le _⟩

theorem entrySound_restored {station : Station} (hnode : isNode station = true) (hother : station ≠ own) :
    entrySound own (restoredEntry station) :=
  ⟨hnode, hother, by simp [restoredEntry, halfInRange], by simp [restoredEntry, halfInRange],
    by simp [restoredEntry, halfInRange], by simp [restoredEntry], Nat.zero_le _⟩

end Entries

/-! ### Steps that keep the table sound -/

/-- The station stays, and a sound table stays sound. -/
structure TableKept (s t : State) : Prop where
  station : t.station = s.station
  sound : s.TableSound → t.TableSound

namespace TableKept

variable {s t u : State}

theorem refl (s : State) : TableKept s s := ⟨rfl, id⟩

theorem trans (h : TableKept s t) (k : TableKept t u) : TableKept s u :=
  ⟨k.station.trans h.station, k.sound ∘ h.sound⟩

/-- The slots sound as before, the sensor health unchanged. -/
theorem of_slotsSound (hstation : t.station = s.station)
    (hhealth : t.table.suspect = s.table.suspect ∧ t.table.sensor = s.table.sensor)
    (hslots : s.TableSound → SlotsSound s.station t.table.slots) : TableKept s t := by
  refine ⟨hstation, fun h => (tableSound_iff t).mpr ⟨by rw [hstation]; exact hslots h, ?_⟩⟩
  obtain ⟨-, hold⟩ := (tableSound_iff s).mp h
  rwa [NeighbourTable.HealthSound, hhealth.1, hhealth.2]

/-- The entries and the sensor health are unchanged. -/
theorem of_table (hstation : t.station = s.station)
    (h : t.table.slots = s.table.slots ∧ t.table.suspect = s.table.suspect ∧ t.table.sensor = s.table.sensor := by simp) :
    TableKept s t := by
  obtain ⟨hslots, hhealth⟩ := h
  refine of_slotsSound hstation hhealth fun hs => ?_
  rw [hslots]
  exact ((tableSound_iff s).mp hs).1

/-- The entries, the sensor health and the pages are unchanged. -/
theorem of_views
    (h : t.table.slots = s.table.slots ∧ t.table.suspect = s.table.suspect ∧ t.table.sensor = s.table.sensor ∧
      t.memory.nv = s.memory.nv := by simp) : TableKept s t := by
  obtain ⟨hslots, hsuspect, hsensor, hnv⟩ := h
  exact of_table (congrArg Memory.stationId hnv) ⟨hslots, hsuspect, hsensor⟩

theorem foldl {α : Type} {f : State → α → State} (l : List α) (h : ∀ a ∈ l, ∀ s, TableKept s (f s a)) (s : State) :
    TableKept s (l.foldl f s) := by
  induction l generalizing s with
  | nil => exact refl s
  | cons a rest ih =>
    exact (h a List.mem_cons_self s).trans (ih (fun b hb => h b (List.mem_cons_of_mem a hb)) (f s a))

end TableKept

theorem ite_tableKept {p : Prop} [Decidable p] {s t : State} (h : p → TableKept s t) :
    TableKept s (if p then t else s) := by
  split
  · rename_i hp; exact h hp
  · exact .refl s

theorem onExpiry_tableKept {effect : State → State} {s : State} {timer : Timer} (h : TableKept s (effect s)) :
    TableKept s (onExpiry timer effect s) := by
  rcases onExpiry_cases timer effect s with ⟨-, e⟩ | ⟨-, e⟩ <;> rw [e]
  · exact h
  · exact .refl s

/-! ### Values stored and admitted (R62, R63, R69 to R71) -/

theorem storeTold_tableKept (i : Nat) {v : Nat} (hv : v ≤ 4095) (s : State) : TableKept s (storeTold i v s) := by
  cases he : slotAt s.table.slots i with
  | none =>
    have hsame : storeTold i v s = s := by simp [storeTold, he]
    rw [hsame]
    exact .refl s
  | some e =>
    have htable := storeTold_table he v
    refine .of_slotsSound (storeTold_probingKept i v s).station (by rw [htable]; exact ⟨rfl, rfl⟩) fun hs => ?_
    obtain ⟨hslots, -⟩ := (tableSound_iff s).mp hs
    rw [htable]
    exact hslots.replace he (entrySound_linkMoved s (entrySound_withTold (hslots.entry i e he) hv)) rfl

theorem storeSeen_tableKept (i : Nat) {k : Nat} (hk : k ≤ 4095) (s : State) : TableKept s (storeSeen i k s) := by
  cases he : slotAt s.table.slots i with
  | none =>
    have hsame : storeSeen i k s = s := by simp [storeSeen, he]
    rw [hsame]
    exact .refl s
  | some e =>
    have hhealth : (storeSeen i k s).table.suspect = s.table.suspect ∧ (storeSeen i k s).table.sensor = s.table.sensor := by
      have hviews := (storeSeen_views he k).2
      rw [hviews]
      split
      · rcases takeShift_cases (s.withSlot i (some (s.linkMoved (e.withSeen k)))) with h | h <;> simp [h]
      · exact ⟨rfl, rfl⟩
    refine .of_slotsSound (storeSeen_probingKept i k s).station hhealth fun hs => ?_
    obtain ⟨hslots, -⟩ := (tableSound_iff s).mp hs
    rw [storeSeen_slots he k]
    exact hslots.replace he (entrySound_linkMoved s (entrySound_withSeen (hslots.entry i e he) hk)) rfl

theorem admission_tableKept {station : Station} (hnode : isNode station = true) (half : MeasuredHalf) {v : Nat}
    (hv : v ≤ 4095) {s : State} (hnew : ∀ e ∈ entriesOf s.table.slots, e.station ≠ station) :
    TableKept s (admission station half v s) := by
  rcases admission_cases station half v s with h | ⟨i, -, hother, h⟩ | h <;> rw [h]
  · exact .refl s
  · refine .of_slotsSound rfl ⟨rfl, rfl⟩ fun hs => ?_
    obtain ⟨hslots, -⟩ := (tableSound_iff s).mp hs
    exact hslots.set (entrySound_new hnode hother half hv) fun j f _ hf => hnew f (mem_entriesOf.mpr ⟨j, hf⟩)
  · exact .of_views

theorem takeTally_tableKept {sender : Station} (h0 : sender ≠ 0) (items : List (Station × Half)) (s : State) :
    TableKept s (takeTally sender items s) := by
  unfold takeTally
  split
  · exact .refl s
  · rename_i htool
    refine .foldl items (fun item _ x => ite_tableKept fun hitem => ?_) s
    rcases slotOf_cases x sender with ⟨hslot, hnew⟩ | ⟨i, e, hslot, -, -⟩ <;> rw [hslot]
    · exact admission_tableKept (isNode_of_not_isTool h0 (by simpa using htool)) .told hitem.2 hnew
    · exact storeTold_tableKept i hitem.2 x

/-! ### The results of a round (R42, R61) -/

/-- What a round hands on: indices in range, of nodes. -/
def ResultsSound (results : List ProbeResult) : Prop := ∀ r ∈ results, findingInRange r.finding ∧ isNode r.station = true

theorem takeResult_tableKept {r : ProbeResult} (hr : findingInRange r.finding) (hnode : isNode r.station = true) (s : State) :
    TableKept s (takeResult s r) := by
  unfold takeResult
  split
  · rename_i k hk _
    rw [hk] at hr
    rcases slotOf_cases s r.station with ⟨hslot, hnew⟩ | ⟨i, e, hslot, -, -⟩ <;> rw [hslot]
    · exact admission_tableKept hnode .seen hr hnew
    · exact storeSeen_tableKept i hr s
  · exact .refl s

/-- A bad self-coupling counts to 3, where the sensor state becomes SUSPECT; a good one ends it. -/
theorem takeSelfCoupling_tableKept (f : Finding) (s : State) : TableKept s (takeSelfCoupling f s) := by
  have hslots : ∀ n health, s.TableSound → (n ≤ 3 ∧ (health = .suspect ↔ n = 3)) →
      (s.withTable { s.table with suspect := n, sensor := health }).TableSound := fun n health hs hn =>
    (tableSound_iff _).mpr ⟨((tableSound_iff s).mp hs).1, hn⟩
  rcases takeSelfCoupling_cases f s with ⟨k, -, -, h⟩ | h <;> rw [h]
  · exact ⟨rfl, fun hs => hslots _ _ hs (by simp)⟩
  · refine ⟨rfl, fun hs => hslots _ _ hs ⟨Nat.min_le_left _ _, ?_⟩⟩
    obtain ⟨-, hle, hsuspect⟩ := (tableSound_iff s).mp hs
    split
    · rename_i hthree
      simp [hthree]
    · rename_i hless
      rw [hsuspect]
      omega

theorem takeResults_tableKept {results : List ProbeResult} (h : ResultsSound results) (s : State) :
    TableKept s (takeResults results s) := by
  have hjudged : TableKept s (match results.find? (fun r => decide (r.station = s.station)) with
      | some r => takeSelfCoupling r.finding s
      | none => s) := by
    split
    · exact takeSelfCoupling_tableKept _ s
    · exact .refl s
  refine hjudged.trans (.foldl _ (fun r hr x => ?_) _)
  obtain ⟨hrange, hnode⟩ := h r (List.mem_of_mem_filter hr)
  exact takeResult_tableKept hrange hnode x

theorem deliverResults_tableKept {s : State}
    (h : ∀ results judgement, s.sense.round = .ready results judgement → ResultsSound results) :
    TableKept s (deliverResults s) := by
  unfold deliverResults
  split
  · rename_i results judgement hr
    have hstored := takeResults_tableKept (h results judgement hr)
    have handed (f : Counters → Counters) (x : SenseUnit) : TableKept s ((s.count f).withSense x) := .of_views
    have told (x : State) : TableKept x (composeTally results x) := .of_views
    dsimp only
    split
    · exact (handed _ _).trans (hstored _)
    · exact ((handed _ _).trans (hstored _)).trans (told _)
  · exact .of_views
  · exact .of_views

/-- The results a sound Sense Unit hands on. -/
theorem State.SenseSound.resultsSound {s : State} (h : s.SenseSound) (results : List ProbeResult) (judgement : Judgement)
    (hr : s.sense.round = .ready results judgement) : ResultsSound results := by
  have hround := h.round
  rw [hr] at hround
  obtain ⟨-, -, -, -, hresults⟩ := hround
  exact hresults

theorem closeRound_tableKept {s : State} (hs : s.SenseSound) : TableKept s (closeRound s) := by
  have hclose : ∀ x, TableKept x (schedClose x) := fun _ => .of_views
  have hready : ∀ results judgement, (schedClose s).sense.round = .ready results judgement → ResultsSound results := by
    simpa using hs.resultsSound
  obtain ⟨a, ha, h⟩ := eitherOrder_cases deliverResults schedClose s
  have hboth : TableKept s a := by
    rcases ha with rfl | rfl
    · exact (deliverResults_tableKept hs.resultsSound).trans (hclose _)
    · exact (hclose s).trans (deliverResults_tableKept hready)
  unfold closeRound
  rcases h with h | h <;> rw [h]
  · exact hboth.trans .of_views
  · exact hboth.trans .of_views

/-! ### Claims, ageing, FORGET and the record (R72, R81, R82, R60) -/

theorem takeClaim_tableKept (sender : Station) {c : Claim} (hc : c.hops ≤ 15) (values : Option (Half × Byte)) (s : State) :
    TableKept s (takeClaim sender c values s) := by
  obtain ⟨htable, -⟩ := takeClaim_holds sender c values s
  have hstation := (takeClaim_probingKept sender c values s).station
  rcases slotOf_cases s sender with ⟨hslot, -⟩ | ⟨i, e, hslot, he, -⟩
  · rw [storeClaim_unknown hslot] at htable
    exact .of_table hstation (by simp [htable])
  · rw [storeClaim_held hslot he] at htable
    refine .of_slotsSound hstation (by rw [htable]; exact ⟨rfl, rfl⟩) fun hs => ?_
    obtain ⟨hslots, -⟩ := (tableSound_iff s).mp hs
    rw [htable]
    exact hslots.replace he (entrySound_claimed (hslots.entry i e he) hc) rfl

theorem ageTable_tableKept (s : State) : TableKept s (ageTable s) := by
  cases hsensor : s.table.sensor with
  | suspect =>
    rw [ageTable_suspect hsensor]
    exact .refl s
  | ok =>
    have htable := ageTable_table hsensor
    refine .of_slotsSound (ageTable_probingKept s).station (by rw [htable]; exact ⟨rfl, rfl⟩) fun hs => ?_
    obtain ⟨hslots, -⟩ := (tableSound_iff s).mp hs
    refine hslots.of_slots (by simp [htable, State.advanced]) fun i e he => ?_
    rw [ageTable_slotAt hsensor hslots.length] at he
    obtain ⟨f, hf, hfe⟩ := Option.bind_eq_some_iff.mp he
    obtain ⟨hsound, hstation⟩ := entrySound_aged (hslots.entry i f hf) hfe
    exact ⟨hsound, f, hf, hstation⟩

theorem takeForget_tableKept (target : Station) (s : State) : TableKept s (takeForget target s) := by
  have hstation := (takeForget_probingKept target s).station
  by_cases hown : target = s.station
  · have hforgotten : takeForget target s = s.forgotten := by rw [takeForget, if_pos hown, State.forgotten]
    rw [hforgotten] at hstation ⊢
    obtain ⟨-, htable, -⟩ := forgotten_holds s
    refine .of_slotsSound hstation (by rw [htable]; exact ⟨rfl, rfl⟩) fun hs => ?_
    rw [htable, changeSlots_none ((tableSound_iff s).mp hs).1.length]
    exact .empty s.station
  · rw [takeForget, if_neg hown]
    exact .refl s

theorem restoreLink_tableKept (s : State) (link : Station × Half) : TableKept s (restoreLink s link) := by
  unfold restoreLink
  dsimp only
  split
  · exact .refl s
  · rename_i hnot
    simp only [not_or, not_not] at hnot
    obtain ⟨-, hnode, hother, hnew⟩ := hnot
    rw [tableHolds_iff] at hnew
    split
    · refine .of_slotsSound rfl ⟨rfl, rfl⟩ fun hs => ?_
      obtain ⟨hslots, -⟩ := (tableSound_iff s).mp hs
      exact hslots.set (entrySound_restored hnode hother) fun j f _ hf heq =>
        hnew ⟨f, mem_entriesOf.mpr ⟨j, hf⟩, heq⟩
    · exact .refl s

theorem restoreRecord_tableKept (s : State) : TableKept s (restoreRecord s) := by
  by_cases hgood : s.memory.nv.goodRecord = true
  · have htaken : TableKept s s.recordValuesTaken := .of_views ⟨rfl, rfl, rfl, rfl⟩
    rw [restoreRecord_good hgood]
    exact htaken.trans (.foldl _ (fun link _ x => restoreLink_tableKept x link) _)
  · rw [restoreRecord, if_neg hgood]
    exact .refl s

theorem readPages_tableKept (s : State) : TableKept s (readPages s) := by
  unfold readPages
  refine TableKept.trans ?_ (restoreRecord_tableKept _)
  exact .of_views ⟨rfl, rfl, rfl, rfl⟩

/-- The table is empty after reset. -/
theorem afterReset_tableSound (s : State) : (afterReset s).TableSound :=
  (tableSound_iff _).mpr ⟨.empty _, show State.reset.table.HealthSound from by unfold NeighbourTable.HealthSound; decide⟩

/-! ### Notices (R166, R167) -/

theorem deliver_tableKept {n : Notice} (hn : Notice.InRange n) (s : State) : TableKept s (deliver n s) := by
  obtain ⟨sender, body⟩ := n
  obtain ⟨h0, hbody⟩ := hn
  cases body with
  | tally items => exact takeTally_tableKept h0 items s
  | claim root hops generation values =>
    simp only [bodyInRange, Bool.and_eq_true, decide_eq_true_eq] at hbody
    obtain ⟨⟨⟨hhops, -⟩, -⟩, -⟩ := hbody
    exact takeClaim_tableKept sender hhops values s
  | forget target => exact takeForget_tableKept target s
  | call d => exact TableKept.of_views (t := takeCall sender d.toNat s)
  | join d p => exact TableKept.of_views (t := takeJoin sender d.toNat p.toNat s)
  | stir cause => exact TableKept.of_views (t := takeStir sender s)
  | survey minutes => exact TableKept.of_views (t := takeSurvey minutes s)
  | presence zone => exact TableKept.of_views (t := takePresence zone s)
  | warmth zone temperature => exact TableKept.of_views (t := takeWarmth sender zone temperature.toInt s)
  | ask target page => exact TableKept.of_views (t := takeAsk target page s)
  | answer page content => exact .refl s
  | set target item value => exact TableKept.of_table (t := takeSet target item value s) (takeSet_probingKept target item value s).station

theorem applyVerdict_tableKept {v : Verdict} (hv : ∀ n, v = .passes n → Notice.InRange n) (s : State) :
    TableKept s (applyVerdict v s) := by
  rcases applyVerdict_cases v s with ⟨-, h⟩ | ⟨-, h⟩ | ⟨n, hn, h⟩ <;> rw [h]
  · exact .of_views
  · exact .refl s
  · exact deliver_tableKept (hv n hn) s

theorem receive_tableKept (n : Notice) (s : State) : TableKept s (receive n s) := by
  rcases receive_cases n s with ⟨-, h⟩ | ⟨-, h⟩ <;> rw [h]
  · exact .refl s
  · exact TableKept.trans .of_views (applyVerdict_tableKept (fun _ => judgeNotice_passes) (lineIdleThree s))

theorem receiveBytes_tableKept (raw : Collected) (s : State) : TableKept s (receiveBytes raw s) := by
  rcases receiveBytes_cases raw s with ⟨-, -, h⟩ | ⟨-, -, -, h⟩ | ⟨-, h⟩ <;> rw [h]
  · exact .refl s
  · exact .of_views
  · exact TableKept.trans .of_views (applyVerdict_tableKept (fun _ => judge_passes) (lineIdleThree s))

theorem completeNotice_tableKept {n : Notice} (hn : Notice.InRange n) (r : Request) (s : State) :
    TableKept s (completeNotice n r s) := by
  have told : ∀ l, TableKept s (reportCompletion n (s.withLine l)) := fun l => .of_views
  unfold completeNotice
  dsimp only
  split
  · exact (told _).trans (deliver_tableKept hn _)
  · exact told _

/-! ### Start-up and the slots of a round, which leave the table -/

theorem releaseReset_tableKept (pins : Straps) (s : State) : TableKept s (releaseReset pins s) := .of_views ⟨rfl, rfl, rfl, rfl⟩

theorem startListening_tableKept (s : State) : TableKept s (startListening s) := by
  unfold startListening
  exact .of_views

theorem release_tableKept (s : State) : TableKept s (release s) := by
  unfold release
  exact .of_views

theorem passGuard_tableKept (s : State) : TableKept s (passGuard s) := by
  unfold passGuard
  dsimp only
  split
  · exact .of_views
  · exact .of_views

theorem beginChips_tableKept (s : State) : TableKept s (beginChips s) := by
  unfold beginChips
  rcases startSense_cases _ with ⟨-, e⟩ | e <;> rw [e]
  · exact .of_views
  · exact .of_views

theorem signalChip_tableKept (j : Nat) (s : State) : TableKept s (signalChip j s) := by
  unfold signalChip
  exact .of_views

theorem startLight_tableKept (s : State) : TableKept s (startLight s) := by
  unfold startLight
  exact .of_views

theorem endLight_tableKept (code : AdcCode) (s : State) : TableKept s (endLight code s) := by
  unfold endLight
  exact .of_views

theorem beginSettle_tableKept (s : State) : TableKept s (beginSettle s) := by
  unfold beginSettle
  exact .of_views

/-! ### The commands -/

/-- A command answers a state in which the table is sound. -/
def AnswersTable (r : Result) : Prop := ∃ t, r = .next t ∧ t.TableSound

theorem State.TableSound.answersKept {s t : State} (hs : s.TableSound) (h : TableKept s t) : AnswersTable (.next t) :=
  ⟨t, rfl, h.sound hs⟩

/-- A command that its state does not fit leaves the table as it is. -/
theorem State.TableSound.answersIf {p : Prop} [Decidable p] {s t : State} (hs : s.TableSound) (h : p → TableKept s t) :
    AnswersTable (.next (if p then t else s)) := hs.answersKept (ite_tableKept h)

/-- So does an expiry of a stopped timer. -/
theorem State.TableSound.answersExpiry {s : State} (hs : s.TableSound) {timer : Timer} {effect : State → State}
    (h : TableKept s (effect s)) : AnswersTable (.next (onExpiry timer effect s)) := hs.answersKept (onExpiry_tableKept h)

theorem withLight_tableKept (s : State) (x : Lighting) : TableKept s (s.withLight x) := .of_views

theorem localPresence_tableKept (s : State) : TableKept s (localPresence s) := .of_views

theorem endWindow_tableKept (s : State) : TableKept s (endWindow s) := by
  unfold endWindow
  split
  · exact ((withLight_tableKept s _).trans (localPresence_tableKept _)).trans (withLight_tableKept _ _)
  · exact withLight_tableKept s _

theorem takePulseSample_tableKept (pinHigh : Bool) (s : State) : TableKept s (takePulseSample pinHigh s) := by
  rcases takePulseSample_cases pinHigh s with ⟨-, -, -, h⟩ | ⟨-, h⟩ <;> rw [h]
  · exact TableKept.trans .of_views (localPresence_tableKept _)
  · exact .of_views

theorem execOccupancySample_table (pinHigh : Bool) {s : State} (hs : s.TableSound) :
    AnswersTable (execOccupancySample pinHigh s) := by
  have sampled (active : Bool) (x : State) : TableKept x (takeSample active x) := by
    unfold takeSample
    dsimp only
    generalize (if active then x.light.activeCount + 1 else x.light.activeCount) = count
    split
    · exact (withLight_tableKept x _).trans (endWindow_tableKept _)
    · exact withLight_tableKept x _
  refine hs.answersKept ?_
  split
  · split
    · exact (withLight_tableKept s _).trans (sampled _ _)
    · exact (withLight_tableKept s _).trans (sampled _ _)
    · exact takePulseSample_tableKept _ _
    · exact .of_views
  · exact .of_views

theorem crystalCycle_tableKept (s : State) : TableKept s (crystalCycle s) := by
  have ticked (x : State) : TableKept x (freeTick x) := by
    unfold freeTick
    dsimp only
    split
    · exact .of_views ⟨rfl, rfl, rfl, rfl⟩
    · exact .of_views ⟨rfl, rfl, rfl, rfl⟩
  unfold crystalCycle
  dsimp only
  split
  · exact .of_views ⟨rfl, rfl, rfl, rfl⟩
  · refine TableKept.trans ?_ (ticked _)
    exact .of_views ⟨rfl, rfl, rfl, rfl⟩

/-! ### The scheduler, the zone and the line, which leave the table -/

theorem becomeWanting_tableKept (s : State) : TableKept s (becomeWanting s) := by
  unfold becomeWanting
  exact .of_views

theorem giveUpTurn_tableKept (s : State) : TableKept s (giveUpTurn s) := by
  have given (x : State) : TableKept x
      (restWithNewProbe (x.count (fun c => { c with missedTurns := bump c.missedTurns }))) := .of_views
  have withdrawn : TableKept s (withdraw .callJoin s) := .of_views
  unfold giveUpTurn
  split
  · exact withdrawn.trans (given _)
  · exact given s

theorem zoneChange_tableKept (root : Station) (save : Bool) (s : State) : TableKept s (zoneChange root save s) :=
  .of_table (zoneChange_probingKept root save s).station

theorem execTemperatureConversionEnd_table (code : AdcCode) {s : State} (hs : s.TableSound) :
    AnswersTable (execTemperatureConversionEnd code s) := by
  have ended (b : Burst) : TableKept s (endTemperature b code s) := by
    unfold endTemperature
    dsimp only
    split
    · exact .of_views
    · exact .of_views
  refine hs.answersKept ?_
  split
  · exact ite_tableKept fun _ => ended _
  · exact .refl s

theorem execLineWin_table {s : State} (hs : s.TableSound) : AnswersTable (execLineWin s) := by
  refine hs.answersKept ?_
  split
  · exact .of_views
  · exact .refl s

theorem execLoss_table {s : State} (hs : s.TableSound) : AnswersTable (execLoss s) := by
  refine hs.answersKept ?_
  split
  · exact .of_views
  · exact .refl s

theorem execNoticeCompletion_table {s : State} (hs : s.Sound) : AnswersTable (execNoticeCompletion s) := by
  refine hs.table.answersKept ?_
  split
  · rename_i hc _
    exact completeNotice_tableKept (hs.line.inRange_of_sending hc) _ s
  · exact .refl s

theorem execFadeTick_table {s : State} (hs : s.TableSound) : AnswersTable (execFadeTick s) := by
  refine hs.answersExpiry ?_
  dsimp only
  split
  · exact .of_views
  · exact .of_views

theorem execWarmthTimerExpiry_table {s : State} (hs : s.TableSound) : AnswersTable (execWarmthTimerExpiry s) := by
  refine hs.answersExpiry ?_
  dsimp only
  split
  · exact .of_views
  · exact .of_views

/-- The record area changes; the identity page, which names the station, does not. -/
theorem execSaveCompletion_table {s : State} (hs : s.TableSound) : AnswersTable (execSaveCompletion s) := by
  refine hs.answersKept ?_
  split
  · have written (z : ZoneMemory) (h : ∀ a, a < 32 → z.nv.read a = s.memory.nv.read a) : TableKept s (s.withMemory z) :=
      .of_table (ProbingKept.of_memory h).station
    exact written _ fun a ha => Memory.read_writeRecord_page0 _ _ a ha
  · exact .refl s

theorem execClearCompletion_table {s : State} (hs : s.TableSound) : AnswersTable (execClearCompletion s) := by
  refine hs.answersKept ?_
  split
  · have cleared : ProbingKept s (s.withMemory { s.memory with nv := s.memory.nv.clearRecord, engine := .idle }) :=
      .of_memory fun a ha => Memory.read_clearRecord_page0 s.memory.nv a ha
    exact TableKept.trans (.of_table cleared.station) .of_views
  · exact .refl s

/-- Every command, from a sound state, answers a state in which the table is sound. -/
theorem exec_answersTable {s : State} (hs : s.Sound) (c : Instr) : AnswersTable (exec c s) := by
  have ht := hs.table
  cases c with
  | reset => exact ⟨_, rfl, afterReset_tableSound s⟩
  | resetRelease pins => exact ht.answersIf fun _ => releaseReset_tableKept pins s
  | oscillatorWaitEnd => exact ht.answersIf fun _ => readPages_tableKept s
  | startOfListenOnly => exact ht.answersIf fun _ => startListening_tableKept s
  | endOfListenOnly => exact ht.answersIf fun _ => release_tableKept s
  | call | join | tally | stir | survey | claim | presence | warmth | ask | answer | set | forget =>
    exact ht.answersKept (receive_tableKept _ s)
  | discardedNotice raw => exact ht.answersKept (receiveBytes_tableKept raw s)
  | guardStart => exact ht.answersIf fun _ => passGuard_tableKept s
  | startOfChips => exact ht.answersIf fun _ => beginChips_tableKept s
  | chipSignal chip => exact ht.answersIf fun _ => signalChip_tableKept _ s
  | chipSample => exact ht.answersIf fun _ => startLight_tableKept s
  | lightConversionEnd code => exact ht.answersIf fun _ => endLight_tableKept code s
  | startOfSettle => exact ht.answersIf fun _ => beginSettle_tableKept s
  | roundClose => exact ht.answersIf fun _ => closeRound_tableKept hs.sense
  | sampleTimerExpiry => exact ht.answersExpiry .of_views
  | temperatureConversionEnd code => exact execTemperatureConversionEnd_table code ht
  | probeTimerExpiry => exact ht.answersIf fun _ => onExpiry_tableKept (becomeWanting_tableKept s)
  | retryDelayExpiry => exact ht.answersIf fun _ => onExpiry_tableKept .of_views
  | wantDeadlineExpiry => exact ht.answersIf fun _ => onExpiry_tableKept (giveUpTurn_tableKept s)
  | briskTimerExpiry => exact ht.answersExpiry .of_views
  | headFixing => exact ht.answersIf fun _ => .of_views
  | lineWin => exact execLineWin_table ht
  | loss => exact execLoss_table ht
  | noticeCompletion => exact execNoticeCompletion_table hs
  | backoffResume => exact ht.answersIf fun _ => .of_views
  | lineStartBit | framerFirstIdle | pwmReload | compareMatch => exact ht.answersIf fun _ => .of_views
  | agingMinute => exact ht.answersExpiry (TableKept.trans .of_views (ageTable_tableKept _))
  | ageSecond => exact ht.answersExpiry .of_views
  | generationTimerExpiry => exact ht.answersExpiry .of_views
  | claimSpacingExpiry => exact ht.answersExpiry .of_views
  | settleTimerExpiry => exact ht.answersExpiry (TableKept.trans .of_views (zoneChange_tableKept _ _ _))
  | stirSpacingExpiry | startUpHoldEnd | lockoutExpiry | presenceSpacingExpiry | rosterSecond | restTimerExpiry
  | linkHoldOffExpiry => exact ht.answersExpiry .of_views
  | occupancySample pinHigh => exact execOccupancySample_table pinHigh ht
  | risingEdge =>
    exact ht.answersIf fun _ => (takePulseSample_tableKept false s).trans (takePulseSample_tableKept true _)
  | holdTimerExpiry | graceTimerExpiry | controlStep => exact ht.answersIf fun _ => onExpiry_tableKept .of_views
  | fadeTick => exact execFadeTick_table ht
  | readingHoldExpiry => exact ht.answersExpiry .of_views
  | warmthTimerExpiry => exact execWarmthTimerExpiry_table ht
  | saveCompletion => exact execSaveCompletion_table ht
  | clearCompletion => exact execClearCompletion_table ht

/-- Every step, from a sound state, answers a state in which the table is sound. -/
theorem step_answersTable {s : State} (hs : s.Sound) : AnswersTable (step s) := by
  unfold step stepQueue
  split
  · rename_i c rest _
    exact exec_answersTable (hs.withQueue rest s.free) c
  · rcases idleStep_cases s with ⟨-, h⟩ | ⟨-, -, h⟩ | ⟨c, -, -, h | h⟩ <;> rw [h]
    · exact ⟨s, rfl, hs.table⟩
    · exact hs.table.answersKept (crystalCycle_tableKept s)
    · exact exec_answersTable hs c
    · exact exec_answersTable (hs.withQueue s.pending (s.free + 1)) c

/-- Settles O56: every command and every cycle of the crystal keeps the table sound. -/
theorem everyStepKeepsTheNeighbourTable : Obligations.EveryStepKeepsTheNeighbourTable := by
  intro s t hs hstep
  obtain ⟨u, hu, hsound⟩ := step_answersTable hs
  obtain rfl : u = t := by simpa [hu] using hstep
  exact hsound

end Sys2Proof.Machine

/-! SUPPORT. The derivation: currentness, the candidates and the best of them, and what a new claim changes (R88 to R98). -/

namespace Sys2Proof.Machine

-- One thread, as above: a thread per theorem exceeds the memory limit of the check.
set_option Elab.async false

/-! ### Currentness (R88) -/

theorem rootEntry_mem {roots : List (Option RootEntry)} {root : Station} {e : RootEntry} (h : rootEntry roots root = some e) :
    e ∈ entriesOf roots ∧ e.root = root :=
  ⟨List.mem_of_find?_eq_some h, by simpa using List.find?_some h⟩

theorem rootEntry_eq_none {roots : List (Option RootEntry)} {root : Station} (h : ∀ e ∈ entriesOf roots, e.root ≠ root) :
    rootEntry roots root = none :=
  List.find?_eq_none.mpr fun e he => by simpa using h e he

theorem isCurrent_iff (roots : List (Option RootEntry)) (c : Claim) :
    isCurrent roots c = true ↔
      ∃ e, rootEntry roots c.root = some e ∧ (c.generation = e.generation ∨ c.generation = e.generation - 1) := by
  unfold isCurrent
  cases rootEntry roots c.root <;> simp

/-- One generation before another, modulo 256. -/
theorem eq_sub_one_iff (g h : Byte) : g = h - 1 ↔ (g.toNat + 1) % 256 = h.toNat := by
  constructor <;> intro hgh <;> bv_omega

/-- Settles O26: currentness read from the root's entry. -/
theorem claimIsCurrentWithinTwoGenerations : Obligations.ClaimIsCurrentWithinTwoGenerations := by
  refine fun roots c => ⟨?_, fun hnew => ?_⟩
  · simp only [isCurrent_iff, eq_sub_one_iff]
  · rw [Bool.eq_false_iff, Ne, isCurrent_iff, rootEntry_eq_none hnew]
    simp

/-! ### The candidates (R90) -/

theorem candidateOf_eq_some_iff {roots : List (Option RootEntry)} {e : Entry} {c : Candidate} :
    candidateOf roots e = some c ↔ ∃ claim, e.claim = some claim ∧ e.link.isLinked = true ∧
      isCurrent roots claim = true ∧ claim.hops ≤ 14 ∧
      c.claim = ⟨claim.root, claim.hops + 1, claim.generation⟩ ∧ c.parent = some e.station ∧
      (c.latest = true ↔ ∃ r, rootEntry roots claim.root = some r ∧ r.generation = claim.generation) := by
  have hlatest : ∀ claim : Claim,
      (rootEntry roots claim.root).any (fun r => decide (r.generation = claim.generation)) = true ↔
        ∃ r, rootEntry roots claim.root = some r ∧ r.generation = claim.generation := by
    intro claim
    cases rootEntry roots claim.root <;> simp
  constructor
  · intro h
    obtain ⟨claim, hclaim, hlinked, hcurrent, hhops, hc, hparent⟩ := candidateOf_some h
    refine ⟨claim, hclaim, hlinked, hcurrent, hhops, hc, hparent, ?_⟩
    simp only [candidateOf, hclaim, hlinked, hcurrent, hhops, decide_true, Bool.and_self, if_true, Option.some.injEq] at h
    subst h
    exact hlatest claim
  · rintro ⟨claim, hclaim, hlinked, hcurrent, hhops, hc, hparent, hl⟩
    obtain ⟨cclaim, cparent, clatest⟩ := c
    obtain rfl : cclaim = _ := hc
    obtain rfl : cparent = _ := hparent
    have hsame : clatest = (rootEntry roots claim.root).any (fun r => decide (r.generation = claim.generation)) :=
      Bool.eq_iff_iff.mpr (hl.trans (hlatest claim).symm)
    simp [candidateOf, hclaim, hlinked, hcurrent, hhops, hsame]

theorem mem_candidates {s : State} {c : Candidate} :
    c ∈ s.candidates ↔ c = s.ownCandidate ∨ ∃ e ∈ entriesOf s.table.slots, candidateOf s.election.roots e = some c := by
  simp [State.candidates, List.mem_filterMap]

/-- Hops 0 and no parent are the own candidate's alone. -/
theorem hops_of_mem_candidates {s : State} {c : Candidate} (h : c ∈ s.candidates) :
    c = s.ownCandidate ∨ (1 ≤ c.claim.hops ∧ c.claim.hops ≤ 15 ∧ c.parent ≠ none) := by
  rcases mem_candidates.mp h with h | ⟨e, -, he⟩
  · exact .inl h
  · obtain ⟨claim, -, -, -, hhops, hc, hparent⟩ := candidateOf_some he
    exact .inr ⟨by simp [hc], by simpa [hc] using Nat.lt_succ_of_le hhops, by simp [hparent]⟩

/-! ### The four tests (R91) -/

theorem beats_iff (a b : Candidate) : a.beats b = true ↔
    a.claim.root < b.claim.root ∨ (a.claim.root = b.claim.root ∧
      (a.claim.hops < b.claim.hops ∨ (a.claim.hops = b.claim.hops ∧
        ((a.latest = true ∧ b.latest = false) ∨ (a.latest = b.latest ∧
          ∃ p q, a.parent = some p ∧ b.parent = some q ∧ p < q))))) := by
  unfold Candidate.beats
  split
  · rename_i hroot
    simp [hroot]
  · rename_i hroot
    have hroot : a.claim.root = b.claim.root := not_not.mp hroot
    simp only [hroot, BitVec.lt_irrefl, true_and, false_or]
    split
    · rename_i hhops
      simp [hhops]
    · rename_i hhops
      have hhops : a.claim.hops = b.claim.hops := not_not.mp hhops
      simp only [hhops, Nat.lt_irrefl, true_and, false_or]
      split
      · rename_i hlatest
        cases ha : a.latest <;> cases hb : b.latest <;> simp_all
      · rename_i hlatest
        have hlatest : a.latest = b.latest := not_not.mp hlatest
        cases ha : a.parent <;> cases hb : b.parent <;> simp [hlatest]

theorem beats_irrefl (a : Candidate) : a.beats a = false := by
  rw [Bool.eq_false_iff, Ne, beats_iff]
  cases a.parent <;> simp

/-- The four tests prefer transitively. -/
theorem beats_trans {a b c : Candidate} (hab : a.beats b = true) (hbc : b.beats c = true) : a.beats c = true := by
  rw [beats_iff] at *
  rcases hab with hab | ⟨hroot, hab⟩
  · rcases hbc with hbc | ⟨hroot, -⟩
    · exact .inl (BitVec.lt_trans hab hbc)
    · exact .inl (hroot ▸ hab)
  · rcases hbc with hbc | ⟨hroot', hbc⟩
    · exact .inl (hroot ▸ hbc)
    · refine .inr ⟨hroot.trans hroot', ?_⟩
      rcases hab with hab | ⟨hhops, hab⟩
      · exact .inl (by omega)
      · rcases hbc with hbc | ⟨hhops', hbc⟩
        · exact .inl (by omega)
        · refine .inr ⟨hhops.trans hhops', ?_⟩
          rcases hab with ⟨ha, hb⟩ | ⟨hlatest, p, q, hp, hq, hpq⟩
          · rcases hbc with ⟨hb', -⟩ | ⟨hlatest, -⟩
            · exact absurd hb' (by simp [hb])
            · exact .inl ⟨ha, hlatest ▸ hb⟩
          · rcases hbc with ⟨hb, hc⟩ | ⟨hlatest', q', r, hq', hr, hqr⟩
            · exact .inl ⟨hlatest.trans hb, hc⟩
            · obtain rfl : q = q' := Option.some.inj (hq.symm.trans hq')
              exact .inr ⟨hlatest.trans hlatest', p, r, hp, hr, BitVec.lt_trans hpq hqr⟩

/-- The better of two candidates, as the search for the best keeps it. -/
def Candidate.better (best c : Candidate) : Candidate := if c.beats best then c else best

theorem beats_better {x best c : Candidate} (h : x.beats best = false) : x.beats (best.better c) = false := by
  unfold Candidate.better
  split
  · rename_i hc
    by_contra hx
    simp [beats_trans (by simpa using hx) hc] at h
  · exact h

theorem better_not_beaten (best c : Candidate) : c.beats (best.better c) = false := by
  unfold Candidate.better
  split
  · exact beats_irrefl c
  · rename_i hc
    simpa using hc

/-- The candidate kept while others are tried one after another is one of them, and none tried is preferred to it. -/
theorem foldl_better (l : List Candidate) (first : Candidate) :
    (l.foldl Candidate.better first = first ∨ l.foldl Candidate.better first ∈ l) ∧
      (∀ x : Candidate, x.beats first = false → x.beats (l.foldl Candidate.better first) = false) ∧
      ∀ c ∈ l, c.beats (l.foldl Candidate.better first) = false := by
  induction l generalizing first with
  | nil => simp
  | cons c rest ih =>
    obtain ⟨hmem, hkept, hrest⟩ := ih (first.better c)
    rw [List.foldl_cons]
    refine ⟨?_, fun x hx => hkept x (beats_better hx), fun x hx => ?_⟩
    · rcases hmem with h | h
      · have htwo : first.better c = c ∨ first.better c = first := by
          unfold Candidate.better
          split <;> simp
        rcases htwo with e | e
        · exact .inr (by rw [h, e]; exact List.mem_cons_self)
        · exact .inl (h.trans e)
      · exact .inr (List.mem_cons_of_mem c h)
    · rcases List.mem_cons.mp hx with rfl | hx
      · exact hkept x (better_not_beaten first x)
      · exact hrest x hx

theorem ownCandidate_mem (s : State) : s.ownCandidate ∈ s.candidates := List.mem_cons_self

theorem bestCandidate_mem (s : State) : s.bestCandidate ∈ s.candidates := by
  rcases (foldl_better s.candidates s.ownCandidate).1 with h | h
  · exact (show s.bestCandidate = s.ownCandidate from h) ▸ ownCandidate_mem s
  · exact h

theorem bestCandidate_not_beaten {s : State} {c : Candidate} (h : c ∈ s.candidates) : c.beats s.bestCandidate = false :=
  (foldl_better s.candidates s.ownCandidate).2.2 c h

/-- The best candidate has the lowest root, and of those the fewest hops. -/
theorem bestCandidate_le {s : State} {c : Candidate} (h : c ∈ s.candidates) :
    s.bestCandidate.claim.root < c.claim.root ∨
      (s.bestCandidate.claim.root = c.claim.root ∧ s.bestCandidate.claim.hops ≤ c.claim.hops) := by
  have hbest := bestCandidate_not_beaten h
  rw [Bool.eq_false_iff, Ne, beats_iff, not_or, not_and_or, not_or] at hbest
  obtain ⟨hroot, hrest⟩ := hbest
  rcases hrest with hne | ⟨hhops, -⟩
  · exact .inl (BitVec.lt_of_le_ne (BitVec.not_lt.mp hroot) (Ne.symm hne))
  · rcases eq_or_ne s.bestCandidate.claim.root c.claim.root with heq | hne
    · exact .inr ⟨heq, Nat.le_of_not_lt hhops⟩
    · exact .inl (BitVec.lt_of_le_ne (BitVec.not_lt.mp hroot) hne)

theorem bestCandidate_root_le (s : State) : s.bestCandidate.claim.root ≤ s.station := by
  rcases bestCandidate_le (ownCandidate_mem s) with h | ⟨h, -⟩
  · exact BitVec.le_of_lt h
  · exact BitVec.le_of_eq h

/-- Hops 0, no parent, and this node's own root go together in the best candidate. -/
theorem bestCandidate_own (s : State) :
    s.bestCandidate = s.ownCandidate ∨
      (1 ≤ s.bestCandidate.claim.hops ∧ s.bestCandidate.claim.hops ≤ 15 ∧ s.bestCandidate.parent ≠ none ∧
        s.bestCandidate.claim.root ≠ s.station) := by
  rcases hops_of_mem_candidates (bestCandidate_mem s) with h | ⟨hpos, hle, hparent⟩
  · exact .inl h
  · refine .inr ⟨hpos, hle, hparent, fun hroot => ?_⟩
    rcases bestCandidate_le (ownCandidate_mem s) with hlt | ⟨-, hhops⟩
    · exact absurd (hroot ▸ hlt) (BitVec.lt_irrefl _)
    · exact absurd (hpos.trans hhops) (by simp [State.ownCandidate])

/-! ### What a new claim changes (R93, R95, R98) -/

/-- The generation timer after a change of the derived root: it runs with root duty (R95). -/
def State.dutyTimer (s : State) (root : Station) : Timer :=
  if s.election.derived.root = root then s.election.generationTimer
  else if root = s.station then some (seconds 30)
  else if s.election.derived.root = s.station then none
  else s.election.generationTimer

/-- A claim is held and, with a new root, handed on, and root duty is taken up or laid down. The announcement is still to
come. -/
def State.holding (s : State) (c : Candidate) : State :=
  { s with
    election := { s.election with
      derived := c.claim, parent := c.parent, generationTimer := s.dutyTimer c.claim.root }
    zone := if s.election.derived.root = c.claim.root then s.zone else (handRoot c.claim.root s).zone }

theorem takeDerived_eq (c : Candidate) (s : State) : takeDerived c s = announcementCheck (s.holding c) := by
  refine congrArg announcementCheck ?_
  dsimp only
  by_cases hroot : s.election.derived.root = c.claim.root
  · rw [if_pos hroot, rootDuty, if_pos hroot, State.holding, if_pos hroot, State.dutyTimer, if_pos hroot]
    rfl
  · rw [if_neg hroot, State.holding, if_neg hroot, State.dutyTimer, if_neg hroot]
    rcases rootDuty_cases s.election.derived.root c.claim.root (handRoot c.claim.root
        (s.withElection { s.election with derived := c.claim, parent := c.parent })) with
      ⟨h, -⟩ | ⟨-, hafter, h⟩ | ⟨-, hafter, hbefore, h⟩ | ⟨-, hafter, hbefore, h⟩
    · exact absurd h hroot
    · rw [h, if_pos (show c.claim.root = s.station from hafter)]
      rfl
    · rw [h, if_neg (show ¬ c.claim.root = s.station from hafter), if_pos (show s.election.derived.root = s.station from hbefore)]
      rfl
    · rw [h, if_neg (show ¬ c.claim.root = s.station from hafter),
        if_neg (show ¬ s.election.derived.root = s.station from hbefore)]
      rfl

theorem announcementCheck_running {s : State} (h : s.phase = .running) : announcementCheck s =
    if s.election.announced = some s.election.derived ∨ s.election.claimSpacing.isSome = true then s else offer .claim s := by
  unfold announcementCheck
  by_cases hsame : s.election.announced = some s.election.derived
  · simp [hsame]
  · simp [hsame, h]

theorem announcementCheck_withElection {s : State} (h : s.phase = .running) (x : Election) :
    announcementCheck (s.withElection x) =
      if x.announced = some x.derived ∨ x.claimSpacing.isSome = true then s.withElection x
      else offer .claim (s.withElection x) := announcementCheck_running (s := s.withElection x) h

theorem derive_running {s : State} (h : s.phase = .running) : derive s =
    if s.bestCandidate.claim = s.election.derived ∧ s.bestCandidate.parent = s.election.parent then s
    else announcementCheck (s.holding s.bestCandidate) := by
  unfold derive
  rw [if_neg (not_not.mpr h)]
  simp only [takeDerived_eq]

theorem derive_parent {s : State} (h : s.phase = .running) : (derive s).election.parent = s.bestCandidate.parent := by
  rw [derive_running h]
  split
  · rename_i hsame
    exact hsame.2.symm
  · rw [(announcementCheck_frame (s.holding s.bestCandidate)).2.2.2.2.2.2.2.1]
    rfl

/-- Settles O27: the candidates, the four tests, what a derivation changes, and the best candidate. -/
theorem derivationTakesTheBestCandidate : Obligations.DerivationTakesTheBestCandidate := by
  refine ⟨fun s c => ?_, beats_iff, fun s => ?_, fun s hrun => ?_⟩
  · simp only [mem_candidates, candidateOf_eq_some_iff]
    rfl
  · intro best held changed handed duty
    by_cases hrun : s.phase = .running
    · have hduty : duty = s.holding best := by
        simp only [duty, handed, held, changed, State.holding, State.dutyTimer]
        by_cases hroot : s.election.derived.root = best.claim.root
        · rw [if_neg (fun h => h.1 hroot), if_neg (not_not.mpr hroot), if_pos hroot, if_pos hroot]
        · rw [if_pos hroot, if_neg hroot, if_neg hroot]
          by_cases hafter : best.claim.root = s.station
          · rw [if_pos ⟨hroot, .inl hafter⟩, if_pos hafter, if_pos hafter]
            rfl
          · rw [if_neg hafter, if_neg hafter]
            by_cases hbefore : s.election.derived.root = s.station
            · rw [if_pos ⟨hroot, .inr hbefore⟩, if_pos hbefore]
              rfl
            · rw [if_neg (fun h => h.2.elim hafter hbefore), if_neg hbefore]
              rfl
      have hphase : (s.holding best).phase = .running := hrun
      rw [derive_running hrun, announcementCheck_running hphase, hduty]
      simp only [hrun, ne_eq, not_true_eq_false, false_or]
      rfl
    · rw [if_pos (.inl hrun), derive, if_pos hrun]
  · refine ⟨derive_derived hrun, derive_parent hrun, bestCandidate_mem s, fun c hc => bestCandidate_not_beaten hc,
      fun c hc => bestCandidate_le hc, bestCandidate_root_le s, ?_⟩
    rcases bestCandidate_own s with h | ⟨hpos, hle, -, hroot⟩
    · simp [h, State.ownCandidate]
    · exact ⟨hle, iff_of_false (by omega) hroot⟩

/-! ### Generations and announcements (R95, R98, R101) -/

/-- The own generation advanced, and its timer restarted (R95). -/
def State.generationRaised (s : State) : State :=
  s.withElection { s.election with
    ownGeneration := s.election.ownGeneration + 1, generationTimer := some (seconds 30) }

theorem exec_generationTimerExpiry {s : State} (h : s.election.generationTimer.isSome = true) :
    exec .generationTimerExpiry s = .next (derive s.generationRaised) := by
  simp only [exec, execGenerationTimerExpiry, onExpiry, if_pos h]
  rfl

theorem exec_claimSpacingExpiry {s : State} (h : s.election.claimSpacing.isSome = true) :
    exec .claimSpacingExpiry s = .next (announcementCheck (s.withElection { s.election with claimSpacing := none })) := by
  simp only [exec, execClaimSpacingExpiry, onExpiry, if_pos h]

/-- A root without linked neighbours derives its own claim, of the new generation. -/
theorem derive_generationRaised {s : State} (hrun : s.phase = .running)
    (hderived : s.election.derived = ⟨s.station, 0, s.election.ownGeneration⟩) (hparent : s.election.parent = none)
    (hunlinked : s.unlinked) : derive s.generationRaised = announcementCheck (s.generationRaised.withElection
      { s.generationRaised.election with derived := ⟨s.station, 0, s.election.ownGeneration + 1⟩ }) := by
  have hbest : s.generationRaised.bestCandidate = ⟨⟨s.station, 0, s.election.ownGeneration + 1⟩, none, true⟩ :=
    bestCandidate_unlinked (s := s.generationRaised) hunlinked
  have hnew : (⟨s.station, 0, s.election.ownGeneration + 1⟩ : Claim) ≠ s.election.derived := by
    rw [hderived]
    simp
  have hroot : s.generationRaised.election.derived.root = s.station := congrArg Claim.root hderived
  rw [derive_running (s := s.generationRaised) hrun, hbest, if_neg (fun h => hnew h.1), State.holding, State.dutyTimer,
    if_pos hroot, if_pos hroot, ← hparent]
  rfl

/-- Settles O30: the generation expiry derives, a lone root announces its new generation, and the spacing expiry announces
what has changed. -/
theorem generationAndSpacingExpiriesAnnounce : Obligations.GenerationAndSpacingExpiriesAnnounce := by
  refine fun s => ⟨fun htimer => ?_, fun hrun hspacing => ?_⟩
  · rw [exec_generationTimerExpiry htimer]
    refine ⟨rfl, fun hrun hderived hparent hunlinked hannounced => congrArg _ ?_⟩
    rw [derive_generationRaised hrun hderived hparent hunlinked,
      announcementCheck_withElection (s := s.generationRaised) hrun]
    cases hspacing : s.election.claimSpacing with
    | none => exact if_neg (by simpa [State.generationRaised, hspacing] using hannounced)
    | some left => exact if_pos (.inr (by simp [State.generationRaised, hspacing]))
  · rw [exec_claimSpacingExpiry hspacing]
    simp only [announcementCheck_withElection hrun, Option.isSome_none, Bool.false_eq_true, or_false]
    rfl

/-! ### The first derivation (R105) -/

/-- The state in which the first derivation runs: the queue takes every kind, and the WARMTH timer starts (R143, R180). -/
def State.released (s : State) : State :=
  { s with
    phase := .running
    line := { s.line with listenOnly := none }
    climate := { s.climate with warmthTimer := some (seconds 60) } }

/-- The first claim is held, handed on where its root is new or differs from the working root, and begins root duty. -/
def State.firstHolding (s : State) (c : Candidate) : State :=
  { s with
    election := { s.election with
      derived := c.claim, parent := c.parent
      generationTimer := if c.claim.root = s.station then some (seconds 30) else s.election.generationTimer }
    zone := if s.election.derived.root ≠ c.claim.root ∨ c.claim.root ≠ s.zone.working then (handRoot c.claim.root s).zone
      else s.zone }

theorem firstDerivation_eq (s : State) : firstDerivation s = announcementCheck (s.firstHolding s.bestCandidate) := by
  refine congrArg announcementCheck ?_
  unfold State.firstHolding
  dsimp only
  split <;> split <;> rfl

theorem exec_endOfListenOnly {s : State} (h : s.phase = .listenOnly) :
    exec .endOfListenOnly s = .next (firstDerivation s.released) := by
  simp only [exec, execEndOfListenOnly, if_pos h]
  rfl

/-- Settles O9: the first claim is held as R105 says, and none having been announced it is announced. -/
theorem endOfListenOnlyDerivesAndAnnounces : Obligations.EndOfListenOnlyDerivesAndAnnounces := by
  intro s hlisten hannounced hspacing best
  rw [exec_endOfListenOnly hlisten, firstDerivation_eq]
  have hbest : s.released.bestCandidate = best := rfl
  have hnot : ¬ ((s.released.firstHolding best).election.announced = some (s.released.firstHolding best).election.derived ∨
      (s.released.firstHolding best).election.claimSpacing.isSome = true) := by
    simp [State.firstHolding, State.released, hannounced, hspacing]
  rw [hbest, announcementCheck_running rfl, if_neg hnot]
  rfl

/-! ### Ageing (R86) -/

/-- What ageing leaves in a slot of the root list: a root whose age has not reached 100. -/
def stillClaimed (x : Option RootEntry) : Option RootEntry := x.filter (fun e => decide (e.age < 100))

/-- The slot of the root list emptied. -/
def State.withoutRoot (s : State) (i : Nat) : State :=
  s.withElection { s.election with roots := s.election.roots.set i none }

/-- A root removed: its slot is emptied, and a derivation runs. -/
theorem ageOutRoot_cases (s : State) (i : Nat) :
    (stillClaimed (slotAt s.election.roots i) = slotAt s.election.roots i ∧ ageOutRoot s i = s) ∨
      ∃ e, slotAt s.election.roots i = some e ∧ 100 ≤ e.age ∧ stillClaimed (some e) = none ∧
        ageOutRoot s i = derive (s.withoutRoot i) := by
  unfold ageOutRoot
  cases he : slotAt s.election.roots i with
  | none => exact .inl ⟨rfl, rfl⟩
  | some e =>
    by_cases hage : 100 ≤ e.age
    · exact .inr ⟨e, rfl, hage, by simpa [stillClaimed, Option.filter_eq_none_iff] using hage, if_pos hage⟩
    · exact .inl ⟨by simpa [stillClaimed, Option.filter_eq_some_iff] using hage, if_neg hage⟩

theorem ageOutRoot_holds (s : State) (i : Nat) :
    (ageOutRoot s i).election.roots = s.election.roots.set i (stillClaimed (slotAt s.election.roots i)) ∧
    (ageOutRoot s i).election.ownGeneration = s.election.ownGeneration ∧
    (ageOutRoot s i).election.announced = s.election.announced ∧
    (ageOutRoot s i).election.ageSecond = s.election.ageSecond ∧
    (ageOutRoot s i).zone.working = s.zone.working := by
  rcases ageOutRoot_cases s i with ⟨hstill, h⟩ | ⟨e, he, -, hgone, h⟩ <;> rw [h]
  · simp [hstill, set_slotAt]
  · simp [State.withoutRoot, he, hgone]

/-- The ages advanced, and the timer restarted. -/
def State.rootsAged (s : State) : State :=
  s.withElection { s.election with
    roots := s.election.roots.map (Option.map fun e => { e with age := e.age + 1 }), ageSecond := some (seconds 1) }

theorem ageRoots_eq (s : State) : ageRoots s = (List.range 16).foldl ageOutRoot s.rootsAged := rfl

theorem ageRoots_roots (s : State) : (ageRoots s).election.roots = changeSlots stillClaimed 16 s.rootsAged.election.roots := by
  rw [ageRoots_eq]
  generalize s.rootsAged = x
  induction (16 : Nat) with
  | zero => rfl
  | succ n ih => rw [List.range_succ, List.foldl_append, List.foldl_cons, List.foldl_nil, (ageOutRoot_holds _ n).1, ih,
      changeSlots_succ]

theorem ageRoots_holds (s : State) :
    (ageRoots s).election.ownGeneration = s.election.ownGeneration ∧
    (ageRoots s).election.announced = s.election.announced ∧
    (ageRoots s).election.ageSecond = some (seconds 1) ∧ (ageRoots s).zone.working = s.zone.working := by
  rw [ageRoots_eq]
  refine foldl_keeps (P := fun x => x.election.ownGeneration = s.election.ownGeneration ∧
    x.election.announced = s.election.announced ∧ x.election.ageSecond = some (seconds 1) ∧
    x.zone.working = s.zone.working) (fun x i hx => ?_) _ ⟨rfl, rfl, rfl, rfl⟩
  obtain ⟨-, hown, hannounced, hsecond, hworking⟩ := ageOutRoot_holds x i
  rwa [hown, hannounced, hsecond, hworking]

/-- What one expiry leaves of a root. -/
def agedRoot (e : RootEntry) : Option RootEntry := if 100 ≤ e.age + 1 then none else some { e with age := e.age + 1 }

theorem stillClaimed_aged (x : Option RootEntry) :
    stillClaimed (x.map fun e => { e with age := e.age + 1 }) = x.bind agedRoot := by
  cases x with
  | none => rfl
  | some e => by_cases h : e.age + 1 < 100 <;> simp [stillClaimed, agedRoot, Option.filter, h, Nat.not_le.mpr, Nat.le_of_not_lt]

theorem ageRoots_slotAt {s : State} (hlen : s.election.roots.length = 16) (i : Nat) :
    slotAt (ageRoots s).election.roots i = (slotAt s.election.roots i).bind agedRoot := by
  have haged : slotAt s.rootsAged.election.roots i = (slotAt s.election.roots i).map fun e => { e with age := e.age + 1 } :=
    slotAt_map _ i
  rw [ageRoots_roots, slotAt_changeSlots rfl, haged, stillClaimed_aged]
  split
  · rfl
  · rename_i hi
    rw [slotAt_of_le (by omega)]
    rfl

/-- Where no root reaches 100, the ages and the timer alone change. -/
theorem ageRoots_young {s : State} (h : ∀ e ∈ entriesOf s.election.roots, e.age < 99) : ageRoots s = s.rootsAged := by
  rw [ageRoots_eq]
  refine foldl_keeps (P := fun x => x = s.rootsAged) (fun x i hx => ?_) _ rfl
  subst hx
  rcases ageOutRoot_cases s.rootsAged i with ⟨-, e⟩ | ⟨e, he, hage, -⟩
  · exact e
  · have hslot : slotAt s.rootsAged.election.roots i = (slotAt s.election.roots i).map _ := slotAt_map _ i
    rw [hslot, Option.map_eq_some_iff] at he
    obtain ⟨f, hf, rfl⟩ := he
    have hyoung := h f (mem_entriesOf.mpr ⟨i, hf⟩)
    dsimp only at hage
    omega

theorem exec_ageSecond {s : State} (h : s.election.ageSecond.isSome = true) : exec .ageSecond s = .next (ageRoots s) := by
  simp only [exec, execAgeSecond, onExpiry, if_pos h]

/-- Settles O29: the fold over the slots, what it leaves slot by slot, and what it leaves alone. -/
theorem ageSecondAdvancesAndRemoves : Obligations.AgeSecondAdvancesAndRemoves := by
  refine fun s hrun hlen => ⟨exec_ageSecond hrun, ageRoots s, exec_ageSecond hrun, ?_⟩
  obtain ⟨hown, hannounced, hsecond, hworking⟩ := ageRoots_holds s
  obtain ⟨hphase, hstraps, -, hround, hsense, hsched, htable, hlight, hclimate, hmemory, -⟩ := ageRoots_frame s
  refine ⟨hsecond, ageRoots_slotAt hlen, hown, hannounced, fun hyoung => ?_,
    hphase, hstraps, hround, hsense, hsched, htable, hlight, hclimate, hworking, hmemory⟩
  rw [ageRoots_young hyoung]
  exact ⟨rfl, rfl, rfl, rfl, rfl, rfl, rfl⟩

end Sys2Proof.Machine

/-! SUPPORT. What a derivation, a CLAIM, the ages and a FORGET leave of the election and of the working zone (R83 to R119). -/

namespace Sys2Proof.Machine

-- One thread, as above: a thread per theorem exceeds the memory limit of the check.
set_option Elab.async false

/-! ### The root list read slot by slot (R83) -/

/-- 16 slots of node roots, no root in two of them. -/
structure RootsSound (roots : List (Option RootEntry)) : Prop where
  length : roots.length = 16
  node : ∀ i e, slotAt roots i = some e → isNode e.root = true
  distinct : ∀ i j e f, slotAt roots i = some e → slotAt roots j = some f → e.root = f.root → i = j

/-- No root has reached the age at which AGE_SECOND removes it (R86). -/
def RootsYoung (roots : List (Option RootEntry)) : Prop := ∀ i e, slotAt roots i = some e → e.age ≤ 99

theorem slotAt_emptyRoots (i : Nat) (e : RootEntry) : slotAt (List.replicate 16 none) i ≠ some e := by
  intro he
  have hi := lt_of_slotAt he
  rw [slotAt_of_lt hi, List.getElem_replicate] at he
  cases he

namespace RootsSound

variable {roots other : List (Option RootEntry)}

theorem empty : RootsSound (List.replicate 16 none) :=
  ⟨by simp, fun i e he => absurd he (slotAt_emptyRoots i e), fun i j e f he => absurd he (slotAt_emptyRoots i e)⟩

/-- Slots each of which is empty, or holds the root it held. -/
theorem of_slots (h : RootsSound roots) (hlen : other.length = roots.length)
    (hold : ∀ i e, slotAt other i = some e → ∃ f, slotAt roots i = some f ∧ f.root = e.root) : RootsSound other := by
  refine ⟨hlen.trans h.length, fun i e he => ?_, fun i j e f he hf hkey => ?_⟩
  · obtain ⟨x, hx, hroot⟩ := hold i e he
    exact hroot ▸ h.node i x hx
  · obtain ⟨x, hx, hxe⟩ := hold i e he
    obtain ⟨y, hy, hyf⟩ := hold j f hf
    exact h.distinct i j x y hx hy (hxe.trans (hkey.trans hyf.symm))

theorem erase (h : RootsSound roots) (i : Nat) : RootsSound (roots.set i none) := by
  by_cases hi : i < roots.length
  · refine h.of_slots (by simp) fun j e he => ⟨e, ?_, rfl⟩
    rw [slotAt_set _ _ _ _ hi] at he
    split at he
    · cases he
    · exact he
  · rwa [List.set_eq_of_length_le (Nat.le_of_not_lt hi)]

/-- A slot written with a node root that no other slot holds. -/
theorem insert (h : RootsSound roots) {i : Nat} {e : RootEntry} (hnode : isNode e.root = true)
    (hnew : ∀ j f, j ≠ i → slotAt roots j = some f → f.root ≠ e.root) : RootsSound (roots.set i (some e)) := by
  by_cases hi : i < roots.length
  · refine ⟨by simpa using h.length, fun j f hf => ?_, fun j k f g hf hg hkey => ?_⟩
    · rw [slotAt_set _ _ _ _ hi] at hf
      split at hf
      · exact Option.some.inj hf ▸ hnode
      · exact h.node j f hf
    · rw [slotAt_set _ _ _ _ hi] at hf hg
      split at hf <;> split at hg
      · rename_i hj hk
        exact hj.trans hk.symm
      · rename_i hk
        cases hf
        exact absurd hkey.symm (hnew k g hk hg)
      · rename_i hj _
        cases hg
        exact absurd hkey (hnew j f hj hf)
      · exact h.distinct j k f g hf hg hkey
  · rwa [List.set_eq_of_length_le (Nat.le_of_not_lt hi)]

end RootsSound

/-- A hops-0 CLAIM leaves the list, or writes its entry into a slot, no other slot holding its root (R84, R85). -/
theorem rootsAfterClaim_cases {s : State} (h : RootsSound s.election.roots) (e : RootEntry) :
    (s.rootsAfterClaim e).1 = s.election.roots ∨
      ∃ i, (s.rootsAfterClaim e).1 = s.election.roots.set i (some e) ∧
        ∀ j f, j ≠ i → slotAt s.election.roots j = some f → f.root ≠ e.root := by
  unfold State.rootsAfterClaim
  dsimp only
  split
  · rename_i i hfind
    obtain ⟨-, ⟨x, hx, hroot⟩, -⟩ := findSlot_some hfind
    refine .inr ⟨i, rfl, fun j f hj hf heq => hj (h.distinct j i f x hf hx ?_)⟩
    exact heq.trans (of_decide_eq_true hroot).symm
  · rename_i hfind
    have hnew : ∀ i j f, j ≠ i → slotAt s.election.roots j = some f → f.root ≠ e.root :=
      fun _ j f _ hf => of_decide_eq_false (findSlot_none hfind j f hf)
    split
    · exact .inr ⟨_, rfl, hnew _⟩
    · split
      · split
        · exact .inr ⟨_, rfl, hnew _⟩
        · exact .inl rfl
      · exact .inl rfl

/-- A CLAIM taken leaves the root list sound: one of hops 0 names a node, its sender (R84, R167). -/
theorem rootList_sound {s : State} (h : RootsSound s.election.roots) {c : Claim} {values : Option (Half × Byte)}
    (hnode : values.isSome = true → isNode c.root = true) : RootsSound (s.rootList c values).1 := by
  unfold State.rootList
  split
  · rcases rootsAfterClaim_cases h _ with e | ⟨i, e, hnew⟩ <;> rw [e]
    · exact h
    · exact h.insert (hnode rfl) hnew
  · exact h

theorem rootList_young {s : State} (h : RootsSound s.election.roots) (hyoung : RootsYoung s.election.roots) (c : Claim)
    (values : Option (Half × Byte)) : RootsYoung (s.rootList c values).1 := by
  unfold State.rootList
  split
  · rcases rootsAfterClaim_cases h _ with e | ⟨i, e, -⟩ <;> rw [e]
    · exact hyoung
    · by_cases hi : i < s.election.roots.length
      · intro j f hf
        rw [slotAt_set _ _ _ _ hi] at hf
        split at hf
        · cases hf
          exact Nat.zero_le _
        · exact hyoung j f hf
      · rwa [List.set_eq_of_length_le (Nat.le_of_not_lt hi)]
  · exact hyoung

/-! ### The election and the zone sound -/

/-- A claim with its parent that a node may hold (R91): hops 0 and no parent exactly for its own root, no root above it. -/
structure ClaimFits (own : Station) (claim : Claim) (parent : Option Station) : Prop where
  hops : claim.hops ≤ 15
  le : claim.root ≤ own
  node : isNode claim.root = true
  own_hops : claim.hops = 0 ↔ claim.root = own
  own_parent : parent = none ↔ claim.root = own

/-- The election and the zone sound, but for the ages of the roots: AGE_SECOND takes those to 100 before it removes them. -/
structure State.DerivedSound (s : State) : Prop where
  identity : s.NodeIdentity
  roots : RootsSound s.election.roots
  claim : ClaimFits s.station s.election.derived s.election.parent
  duty : s.election.generationTimer.isSome = true ↔ s.phase = .running ∧ s.election.derived.root = s.station
  zone : s.ZoneSound

/-- What O57 claims of the state after a step, with the identity of the station. -/
structure State.ZoningSound (s : State) : Prop extends s.DerivedSound where
  young : RootsYoung s.election.roots

theorem electionSound_iff (s : State) : s.ElectionSound ↔
    RootsSound s.election.roots ∧ RootsYoung s.election.roots ∧ ClaimFits s.station s.election.derived s.election.parent ∧
      (s.election.generationTimer.isSome = true ↔ s.phase = .running ∧ s.election.derived.root = s.station) := by
  have hentries : (∀ e ∈ entriesOf s.election.roots, isNode e.root = true ∧ e.age ≤ 99) ↔
      (∀ i e, slotAt s.election.roots i = some e → isNode e.root = true) ∧ RootsYoung s.election.roots := by
    refine ⟨fun h => ⟨fun i e he => (h e (mem_entriesOf.mpr ⟨i, he⟩)).1, fun i e he => (h e (mem_entriesOf.mpr ⟨i, he⟩)).2⟩,
      fun h e he => ?_⟩
    obtain ⟨i, hi⟩ := mem_entriesOf.mp he
    exact ⟨h.1 i e hi, h.2 i e hi⟩
  rw [State.ElectionSound, hentries, nodup_entries_iff]
  constructor
  · rintro ⟨hlen, ⟨hnode, hyoung⟩, hdistinct, hhops, hle, hroot, hown, hparent, hduty⟩
    exact ⟨⟨hlen, hnode, hdistinct⟩, hyoung, ⟨hhops, hle, hroot, hown, hparent⟩, hduty⟩
  · rintro ⟨⟨hlen, hnode, hdistinct⟩, hyoung, ⟨hhops, hle, hroot, hown, hparent⟩, hduty⟩
    exact ⟨hlen, ⟨hnode, hyoung⟩, hdistinct, hhops, hle, hroot, hown, hparent, hduty⟩

theorem State.Sound.zoning {s : State} (h : s.Sound) : s.ZoningSound := by
  obtain ⟨hroots, hyoung, hclaim, hduty⟩ := (electionSound_iff s).mp h.election
  exact ⟨⟨h.identity, hroots, hclaim, hduty, h.zone⟩, hyoung⟩

theorem State.ZoningSound.electionSound {s : State} (h : s.ZoningSound) : s.ElectionSound :=
  (electionSound_iff s).mpr ⟨h.roots, h.young, h.claim, h.duty⟩

/-- Timers may count and what lies outside the election and the zone may change. -/
theorem State.DerivedSound.congr {s t : State} (h : s.DerivedSound)
    (hpart : t.station = s.station ∧ t.phase = s.phase)
    (helection : t.election.roots = s.election.roots ∧ t.election.derived = s.election.derived ∧
      t.election.parent = s.election.parent ∧ t.election.generationTimer.isSome = s.election.generationTimer.isSome)
    (hzone : t.zone.working = s.zone.working ∧ t.zone.derivedCopy = s.zone.derivedCopy ∧
      t.zone.settle.isSome = s.zone.settle.isSome ∧ t.zone.hold.isSome = s.zone.hold.isSome) : t.DerivedSound := by
  obtain ⟨hstation, hphase⟩ := hpart
  obtain ⟨hroots, hderived, hparent, htimer⟩ := helection
  obtain ⟨hworking, hcopy, hsettle, hhold⟩ := hzone
  have hz := h.zone
  refine ⟨?_, hroots ▸ h.roots, ?_, ?_, ?_⟩
  · rw [State.NodeIdentity, hstation]
    exact h.identity
  · rw [hstation, hderived, hparent]
    exact h.claim
  · rw [htimer, hphase, hderived, hstation]
    exact h.duty
  · unfold State.ZoneSound at hz ⊢
    simp only [← Option.isNone_iff_eq_none, ← Option.not_isSome] at hz ⊢
    rw [hworking, hstation, hcopy, hderived, hsettle, hhold, hphase]
    exact hz

/-! ### A derivation (R90 to R95) -/

theorem bestCandidate_fits {s : State} (hid : s.NodeIdentity) (hroots : RootsSound s.election.roots) :
    ClaimFits s.station s.bestCandidate.claim s.bestCandidate.parent := by
  rcases bestCandidate_own s with h | ⟨hpos, hle, hparent, hother⟩
  · rw [h]
    exact ⟨Nat.zero_le _, BitVec.le_refl _, hid, iff_of_true rfl rfl, iff_of_true rfl rfl⟩
  · refine ⟨hle, bestCandidate_root_le s, ?_, iff_of_false (by omega) hother, iff_of_false hparent hother⟩
    rcases mem_candidates.mp (bestCandidate_mem s) with h | ⟨e, -, he⟩
    · exact absurd (congrArg (fun c => c.claim.root) h) hother
    · obtain ⟨claim, -, -, hcurrent, -, hclaim, -⟩ := candidateOf_some he
      obtain ⟨r, hr, -⟩ := (isCurrent_iff _ _).mp hcurrent
      obtain ⟨hmem, hroot⟩ := rootEntry_mem hr
      obtain ⟨i, hi⟩ := mem_entriesOf.mp hmem
      rw [hclaim]
      exact hroot ▸ hroots.node i r hi

/-- A root handed on in a part that runs leaves the zone sound (R109, R110). -/
theorem State.ZoneSound.handed {s t : State} (h : s.ZoneSound) (hstation : t.station = s.station) (hrun : t.phase = .running)
    {root : Station} (hzone : t.zone = (handRoot root s).zone) (hroot : t.election.derived.root = root) : t.ZoneSound := by
  obtain ⟨hnode, hle, -, hsettle, -⟩ := h
  have hworking : t.zone.working = s.zone.working := by rw [hzone]; rfl
  refine ⟨hworking ▸ hnode, by rwa [hworking, hstation], by rw [hzone, hroot]; rfl, fun hruns => ?_, fun hp => ?_⟩
  · rw [hzone] at hruns ⊢
    simp only [handRoot, State.withZone_zone] at hruns ⊢
    split at hruns
    · rename_i hhold
      simp [(hsettle hruns).1] at hhold
    · rename_i hhold
      refine ⟨by simpa using hhold, fun heq => ?_⟩
      simp [heq] at hruns
  · rcases hp with hp | hp <;> rw [hrun] at hp <;> cases hp

theorem holding_derivedSound {s : State} (h : s.DerivedSound) (hrun : s.phase = .running) :
    (s.holding s.bestCandidate).DerivedSound := by
  have hduty := h.duty
  refine ⟨h.identity, h.roots, bestCandidate_fits h.identity h.roots, ?_, ?_⟩
  · change (s.dutyTimer s.bestCandidate.claim.root).isSome = true ↔
      s.phase = .running ∧ s.bestCandidate.claim.root = s.station
    unfold State.dutyTimer
    split
    · rename_i hsame
      rwa [hsame] at hduty
    · split
      · rename_i hown
        exact iff_of_true rfl ⟨hrun, hown⟩
      · rename_i hother
        split
        · exact iff_of_false (by simp) fun hboth => hother hboth.2
        · rename_i hbefore
          exact iff_of_false (fun hruns => hbefore (hduty.mp hruns).2) fun hboth => hother hboth.2
  · by_cases hsame : s.election.derived.root = s.bestCandidate.claim.root
    · have hz := h.zone
      have hzone : (s.holding s.bestCandidate).zone = s.zone := if_pos hsame
      have hcopy : (s.holding s.bestCandidate).election.derived.root = s.election.derived.root := hsame.symm
      unfold State.ZoneSound at hz ⊢
      rw [hzone, hcopy]
      exact hz
    · exact h.zone.handed rfl hrun (if_neg hsame) rfl

/-- The announcement check reaches the line alone (R98). -/
theorem announcementCheck_derivedSound {s : State} (h : s.DerivedSound) : (announcementCheck s).DerivedSound :=
  h.congr ⟨congrArg Memory.stationId (by simp), by simp⟩ (by simp) (by simp)

theorem derive_derivedSound {s : State} (h : s.DerivedSound) : (derive s).DerivedSound := by
  by_cases hrun : s.phase = .running
  · rw [derive_running hrun]
    split
    · exact h
    · exact announcementCheck_derivedSound (holding_derivedSound h hrun)
  · rwa [derive, if_pos hrun]

/-- The first derivation, of a part that leaves listen-only (R105). -/
theorem firstDerivation_derivedSound {s : State} (h : s.DerivedSound) (hlisten : s.phase = .listenOnly) :
    (firstDerivation s.released).DerivedSound := by
  have hbest : s.released.bestCandidate = s.bestCandidate := rfl
  rw [firstDerivation_eq, hbest]
  refine announcementCheck_derivedSound ⟨h.identity, h.roots, bestCandidate_fits h.identity h.roots, ?_, ?_⟩
  · change Option.isSome (if s.bestCandidate.claim.root = s.station then some (seconds 30) else s.election.generationTimer) = true ↔
      StartPhase.running = .running ∧ s.bestCandidate.claim.root = s.station
    split
    · rename_i hown
      exact iff_of_true rfl ⟨rfl, hown⟩
    · rename_i hother
      refine iff_of_false (fun hruns => ?_) fun hboth => hother hboth.2
      have hrun := (h.duty.mp hruns).1
      rw [hlisten] at hrun
      cases hrun
  · by_cases hhands : s.election.derived.root ≠ s.bestCandidate.claim.root ∨ s.bestCandidate.claim.root ≠ s.zone.working
    · exact h.zone.handed rfl rfl (if_pos hhands) rfl
    · simp only [not_or, not_not] at hhands
      obtain ⟨hsame, hworking⟩ := hhands
      obtain ⟨hnode, hle, hcopy, hsettle, -⟩ := h.zone
      have hzone : (s.released.firstHolding s.bestCandidate).zone = s.zone :=
        if_neg (by simpa using ⟨hsame, hworking⟩)
      unfold State.ZoneSound
      rw [hzone]
      exact ⟨hnode, hle, hcopy.trans hsame, hsettle, fun hp => by rcases hp with hp | hp <;> cases hp⟩

/-! ### Ageing and the root list (R84, R86) -/

theorem ageOutRoot_derivedSound {s : State} (h : s.DerivedSound) (i : Nat) : (ageOutRoot s i).DerivedSound := by
  rcases ageOutRoot_cases s i with ⟨-, e⟩ | ⟨_, -, -, -, e⟩ <;> rw [e]
  · exact h
  · exact derive_derivedSound (s := s.withoutRoot i) ⟨h.identity, h.roots.erase i, h.claim, h.duty, h.zone⟩

theorem rootsAged_derivedSound {s : State} (h : s.DerivedSound) : s.rootsAged.DerivedSound := by
  have hroots : RootsSound s.rootsAged.election.roots := by
    refine h.roots.of_slots (by simp [State.rootsAged]) fun i e he => ?_
    have hslot : slotAt s.rootsAged.election.roots i = (slotAt s.election.roots i).map _ := slotAt_map _ i
    rw [hslot, Option.map_eq_some_iff] at he
    obtain ⟨f, hf, rfl⟩ := he
    exact ⟨f, hf, rfl⟩
  exact ⟨h.identity, hroots, h.claim, h.duty, h.zone⟩

/-- An expiry of the age second removes what reaches 100. -/
theorem ageRoots_zoningSound {s : State} (h : s.ZoningSound) : (ageRoots s).ZoningSound := by
  refine ⟨?_, fun i e he => ?_⟩
  · rw [ageRoots_eq]
    exact foldl_keeps (P := State.DerivedSound) (fun _ i hx => ageOutRoot_derivedSound hx i) _
      (rootsAged_derivedSound h.toDerivedSound)
  · rw [ageRoots_slotAt h.roots.length] at he
    obtain ⟨f, -, hf⟩ := Option.bind_eq_some_iff.mp he
    unfold agedRoot at hf
    split at hf
    · cases hf
    · cases hf
      dsimp only
      omega

/-! ### What the zone obeys, and what keeps it -/

/-- What O60 says that a command changes at its own events alone. -/
structure Obeyed where
  working : Station
  straps : Straps
  damper : Nat
  generation : Byte
  output : Nat

def State.obeyed (s : State) : Obeyed where
  working := s.zone.working
  straps := s.straps
  damper := s.climate.damper
  generation := s.election.ownGeneration
  output := s.light.output

/-- What the zone obeys stays, and a sound election and zone stay sound. Most operations of the part are of this kind. -/
structure ZoningKept (s t : State) : Prop where
  obeyed : t.obeyed = s.obeyed
  sound : s.ZoningSound → t.ZoningSound

theorem State.ZoningSound.congr {s t : State} (h : s.ZoningSound)
    (hpart : t.station = s.station ∧ t.phase = s.phase)
    (helection : t.election.roots = s.election.roots ∧ t.election.derived = s.election.derived ∧
      t.election.parent = s.election.parent ∧ t.election.generationTimer.isSome = s.election.generationTimer.isSome)
    (hzone : t.zone.working = s.zone.working ∧ t.zone.derivedCopy = s.zone.derivedCopy ∧
      t.zone.settle.isSome = s.zone.settle.isSome ∧ t.zone.hold.isSome = s.zone.hold.isSome) : t.ZoningSound :=
  ⟨h.toDerivedSound.congr hpart helection hzone, helection.1 ▸ h.young⟩

/-- Only what stands outside the election and the zone has changed. -/
theorem State.ZoningSound.outside {s t : State} (h : s.ZoningSound) (hstation : t.station = s.station)
    (hrest : t.phase = s.phase ∧ t.election = s.election ∧ t.zone = s.zone := by simp) : t.ZoningSound := by
  obtain ⟨hphase, helection, hzone⟩ := hrest
  exact h.congr ⟨hstation, hphase⟩ (by simp [helection]) (by simp [hzone])

namespace ZoningKept

variable {s t u : State}

theorem refl (s : State) : ZoningKept s s := ⟨rfl, id⟩

theorem trans (h : ZoningKept s t) (k : ZoningKept t u) : ZoningKept s u :=
  ⟨k.obeyed.trans h.obeyed, k.sound ∘ h.sound⟩

/-- The station is named by the pages, of which the identity page alone counts. -/
theorem of_station (hstation : t.station = s.station)
    (h : t.phase = s.phase ∧ t.straps = s.straps ∧ t.election = s.election ∧ t.zone = s.zone ∧
      t.climate.damper = s.climate.damper ∧ t.light.output = s.light.output := by simp) : ZoningKept s t := by
  obtain ⟨hphase, hstraps, helection, hzone, hdamper, houtput⟩ := h
  refine ⟨?_, fun hs => hs.outside hstation ⟨hphase, helection, hzone⟩⟩
  rw [State.obeyed, hstraps, helection, hzone, hdamper, houtput]
  rfl

theorem of_views
    (h : t.phase = s.phase ∧ t.straps = s.straps ∧ t.election = s.election ∧ t.zone = s.zone ∧
      t.climate.damper = s.climate.damper ∧ t.light.output = s.light.output ∧ t.memory.nv = s.memory.nv := by simp) :
    ZoningKept s t := by
  obtain ⟨hphase, hstraps, helection, hzone, hdamper, houtput, hnv⟩ := h
  exact of_station (congrArg Memory.stationId hnv) ⟨hphase, hstraps, helection, hzone, hdamper, houtput⟩

theorem foldl {α : Type} {f : State → α → State} (h : ∀ s a, ZoningKept s (f s a)) (l : List α) (s : State) :
    ZoningKept s (l.foldl f s) := by
  induction l generalizing s with
  | nil => exact refl s
  | cons a rest ih => exact (h s a).trans (ih (f s a))

end ZoningKept

theorem ite_zoningKept {p : Prop} [Decidable p] {s t : State} (h : p → ZoningKept s t) :
    ZoningKept s (if p then t else s) := by
  split
  · rename_i hp; exact h hp
  · exact .refl s

theorem onExpiry_zoningKept {effect : State → State} {s : State} {timer : Timer}
    (h : timer.isSome = true → ZoningKept s (effect s)) : ZoningKept s (onExpiry timer effect s) := by
  rcases onExpiry_cases timer effect s with ⟨hruns, e⟩ | ⟨-, e⟩ <;> rw [e]
  · exact h hruns
  · exact .refl s

/-! ### The damper and the output level through the operations of climate and light -/

@[simp] theorem reportTemperature_damper (i : Station) (t : Int) (s : State) :
    (reportTemperature i t s).climate.damper = s.climate.damper := rfl

@[simp] theorem takeWarmth_damper (i z : Station) (t : Int) (s : State) :
    (takeWarmth i z t s).climate.damper = s.climate.damper := by
  unfold takeWarmth; split <;> rfl

@[simp] theorem takeBurst_damper (codes : List AdcCode) (s : State) :
    (takeBurst codes s).climate.damper = s.climate.damper := by
  unfold takeBurst; split
  · dsimp only; split <;> rfl
  · rfl

@[simp] theorem emptyRoster_damper (s : State) : (emptyRoster s).climate.damper = s.climate.damper := by
  unfold emptyRoster; split <;> rfl

@[simp] theorem zonePresence_output (s : State) : (zonePresence s).light.output = s.light.output := by
  unfold zonePresence; split <;> rfl

@[simp] theorem localPresence_output (s : State) : (localPresence s).light.output = s.light.output := by
  unfold localPresence; split <;> simp

@[simp] theorem takePresence_output (z : Station) (s : State) : (takePresence z s).light.output = s.light.output := by
  unfold takePresence; split <;> simp

@[simp] theorem loadCompare_output (level : Nat) (s : State) : (loadCompare level s).light.output = s.light.output := rfl

@[simp] theorem loadChip_output (j : Nat) (s : State) : (loadChip j s).light.output = s.light.output := by
  unfold loadChip; split <;> simp

@[simp] theorem setTask_output (task : Nat) (s : State) : (setTask task s).light.output = s.light.output := by
  unfold setTask; split <;> rfl

@[simp] theorem setItem_holds (item : Nat) (value : Int) (s : State) :
    (setItem item value s).climate.damper = s.climate.damper ∧ (setItem item value s).light.output = s.light.output := by
  unfold setItem; split <;> simp

/-! ### Derivations and link events (R67, R92) -/

/-- A derivation leaves the root list, so that the roots stay as young as they were. -/
theorem derive_zoningKept (s : State) : ZoningKept s (derive s) :=
  ⟨by simp [State.obeyed], fun h => ⟨derive_derivedSound h.toDerivedSound, by simpa using h.young⟩⟩

theorem handLinkEvent_zoningKept (s : State) : ZoningKept s (handLinkEvent s) :=
  ZoningKept.trans .of_views (derive_zoningKept _)

theorem evaluateSlot_zoningKept (i : Nat) (s : State) : ZoningKept s (evaluateSlot i s) := by
  rcases evaluateSlot_cases i s with h | ⟨e, link, -, -, -, h | h⟩ <;> rw [h]
  · exact .refl s
  · exact .of_views
  · exact ZoningKept.trans .of_views (handLinkEvent_zoningKept _)

theorem storeTold_zoningKept (i v : Nat) (s : State) : ZoningKept s (storeTold i v s) := by
  unfold storeTold
  split
  · exact .refl s
  · exact ZoningKept.trans .of_views (evaluateSlot_zoningKept i _)

theorem storeSeen_zoningKept (i k : Nat) (s : State) : ZoningKept s (storeSeen i k s) := by
  unfold storeSeen
  split
  · exact .refl s
  · dsimp only
    refine ZoningKept.trans ?_ (evaluateSlot_zoningKept i _)
    split
    · exact .of_views
    · exact .of_views

theorem takeResult_zoningKept (s : State) (r : ProbeResult) : ZoningKept s (takeResult s r) := by
  unfold takeResult
  split
  · split
    · exact storeSeen_zoningKept _ _ s
    · exact .of_views
  · exact .refl s

theorem takeResults_zoningKept (results : List ProbeResult) (s : State) : ZoningKept s (takeResults results s) := by
  unfold takeResults
  dsimp only
  refine ZoningKept.trans ?_ (ZoningKept.foldl takeResult_zoningKept _ _)
  split
  · exact .of_views
  · exact .refl s

theorem deliverResults_zoningKept (s : State) : ZoningKept s (deliverResults s) := by
  have told (results : List ProbeResult) (x : State) : ZoningKept x (composeTally results x) := .of_views
  unfold deliverResults
  split
  · dsimp only
    split
    · exact ZoningKept.trans .of_views (takeResults_zoningKept _ _)
    · exact (ZoningKept.trans .of_views (takeResults_zoningKept _ _)).trans (told _ _)
  · exact .of_views
  · exact .of_views

theorem closeRound_zoningKept (s : State) : ZoningKept s (closeRound s) := by
  have hclose : ∀ x, ZoningKept x (schedClose x) := fun _ => .of_views
  obtain ⟨a, ha, h⟩ := eitherOrder_cases deliverResults schedClose s
  have hboth : ZoningKept s a := by
    rcases ha with rfl | rfl
    · exact (deliverResults_zoningKept s).trans (hclose _)
    · exact (hclose s).trans (deliverResults_zoningKept _)
  unfold closeRound
  rcases h with h | h <;> rw [h]
  · exact hboth.trans .of_views
  · exact hboth.trans .of_views

theorem takeTally_zoningKept (sender : Station) (items : List (Station × Half)) (s : State) :
    ZoningKept s (takeTally sender items s) := by
  unfold takeTally
  split
  · exact .refl s
  · refine ZoningKept.foldl (fun x item => ite_zoningKept fun _ => ?_) items s
    split
    · exact storeTold_zoningKept _ _ x
    · exact .of_views

theorem ageTable_zoningKept (s : State) : ZoningKept s (ageTable s) := by
  unfold ageTable
  split
  · exact .refl s
  · refine ZoningKept.trans .of_views (ZoningKept.foldl (fun x i => ?_) _ _)
    rcases ageOutEntry_cases x i with ⟨-, h⟩ | ⟨e, -, -, ⟨-, h⟩ | ⟨-, h⟩⟩ <;> rw [h]
    · exact .refl x
    · exact .of_views
    · exact ZoningKept.trans .of_views (handLinkEvent_zoningKept _)

theorem emptyTable_zoningKept (s : State) : ZoningKept s (emptyTable s) := by
  refine ZoningKept.foldl (fun x i => ?_) _ s
  rcases clearEntry_cases x i with ⟨-, h⟩ | ⟨e, -, ⟨-, h⟩ | ⟨-, h⟩⟩ <;> rw [h]
  · exact .refl x
  · exact .of_views
  · exact ZoningKept.trans .of_views (derive_zoningKept _)

/-! ### Claims and ages (R84, R86) -/

theorem takeClaim_obeyed (sender : Station) (c : Claim) (values : Option (Half × Byte)) (s : State) :
    (takeClaim sender c values s).obeyed = s.obeyed := by
  obtain ⟨-, -, hown, hworking⟩ := takeClaim_holds sender c values s
  simp [State.obeyed, hown, hworking]

theorem takeClaim_zoningKept (sender : Station) {c : Claim} {values : Option (Half × Byte)}
    (hnode : values.isSome = true → isNode c.root = true) (s : State) : ZoningKept s (takeClaim sender c values s) := by
  refine ⟨takeClaim_obeyed sender c values s, fun h => ?_⟩
  have hstored : ((storeClaim sender c s).withElection { s.election with roots := (s.rootList c values).1 }).ZoningSound :=
    have hclaimed : (s.withElection { s.election with roots := (s.rootList c values).1 }).ZoningSound :=
      ⟨⟨h.identity, rootList_sound h.roots hnode, h.claim, h.duty, h.zone⟩, rootList_young h.roots h.young c values⟩
    hclaimed.outside (congrArg Memory.stationId (by simp))
  rw [takeClaim_eq]
  split
  · exact (derive_zoningKept _).sound hstored
  · exact hstored

theorem ageRoots_zoningKept (s : State) : ZoningKept s (ageRoots s) := by
  obtain ⟨hown, -, -, hworking⟩ := ageRoots_holds s
  exact ⟨by simp [State.obeyed, hown, hworking], ageRoots_zoningSound⟩

/-! ### FORGET (R116, R192) -/

/-- FORGET returns the zone to this node, with the settle cancelled and the hold started. -/
theorem forgetZone_zoningSound {s : State} (h : s.ZoningSound) (hlive : s.live = true) : (forgetZone s).ZoningSound := by
  have hhome : s.homeZone.ZoningSound := by
    obtain ⟨-, -, hcopy, -, -⟩ := h.zone
    refine ⟨⟨h.identity, h.roots, h.claim, h.duty, h.identity, BitVec.le_refl _, hcopy, fun hruns => ?_, fun hp => ?_⟩, h.young⟩
    · cases hruns
    · have hphase : s.phase = .held ∨ s.phase = .oscillatorWait := hp
      rcases hphase with hp | hp <;> simp [State.live, hp] at hlive
  rw [forgetZone_eq]
  split
  · exact hhome
  · refine hhome.outside (congrArg Memory.stationId ?_) ?_
    · split <;> simp
    · split <;> simp

/-- A FORGET taken, of a part that is live, leaves the election and the zone sound in any order of the blocks. -/
theorem takeForget_zoningSound {s : State} (h : s.ZoningSound) (hlive : s.live = true) (target : Station) :
    (takeForget target s).ZoningSound := by
  have hbrisk (x : State) : ZoningKept x (enterBrisk (seconds 600) x) := .of_views
  have hrecord : (forgetRecord s).ZoningSound := h.outside (congrArg Memory.stationId (by simp))
  unfold takeForget
  split
  · refine (anyOrder_keeps (P := fun x => x.ZoningSound ∧ x.live = true) (fun x hx => ?_) (fun x hx => ?_) (fun x hx => ?_)
      (fun x n hx => ?_) ⟨hrecord, ?_⟩).1
    · exact ⟨(emptyTable_zoningKept x).sound hx.1, (State.live_congr (by simp)).trans hx.2⟩
    · exact ⟨forgetZone_zoningSound hx.1 hx.2, (State.live_congr (by simp)).trans hx.2⟩
    · exact ⟨(hbrisk x).sound hx.1, (State.live_congr (by simp)).trans hx.2⟩
    · exact ⟨hx.1.outside rfl ⟨rfl, rfl, rfl⟩, hx.2⟩
    · exact (State.live_congr (by simp)).trans hlive
  · exact h

/-- Of what the zone obeys, FORGET changes the working root alone. -/
theorem takeForget_obeyed (target : Station) (s : State) :
    (takeForget target s).obeyed = { s.obeyed with working := (takeForget target s).zone.working } := by
  by_cases hown : target = s.station
  · have hforgotten : takeForget target s = s.forgotten := by rw [takeForget, if_pos hown, State.forgotten]
    obtain ⟨⟨-, hstraps, -, -, hlight⟩, -, ⟨-, hgeneration, -⟩, -⟩ := forgotten_holds s
    have hclimate := forgotten_climate s
    rw [hforgotten]
    generalize s.forgotten = t at hstraps hlight hgeneration hclimate ⊢
    simp only [State.obeyed, hstraps, hlight, hgeneration, hclimate]
  · rw [takeForget, if_neg hown]
    rfl

end Sys2Proof.Machine

/-! SUPPORT. The commands: which keep what the zone obeys, and that all keep the election and the zone sound (R83 to R119). -/

namespace Sys2Proof.Machine

-- One thread, as above: a thread per theorem exceeds the memory limit of the check.
set_option Elab.async false

/-! ### Notices taken (R166, R168) -/

/-- A notice that passes is the notice judged. -/
theorem judgeNotice_eq {n m : Notice} (h : judgeNotice n = .passes m) : m = n := by
  unfold judgeNotice judgeFields at h
  dsimp only at h
  split_ifs at h
  cases h
  rfl

/-- A CLAIM in range that carries values is of hops 0, and names its sender, which is no tool (R167). -/
theorem claim_names_node {sender root : Station} {hops generation : Byte} {values : Option (Half × Byte)}
    (h : Notice.InRange ⟨sender, .claim root hops generation values⟩) (hvalues : values.isSome = true) :
    isNode root = true := by
  obtain ⟨h0, hbody⟩ := h
  simp only [bodyInRange, hvalues, Bool.and_eq_true, Bool.or_eq_true, beq_iff_eq, decide_eq_true_eq,
    Bool.not_eq_true'] at hbody
  obtain ⟨⟨⟨-, hzero⟩, hroot⟩, htool⟩ := hbody
  rcases hroot with hne | rfl
  · exact absurd hzero hne
  · exact isNode_of_not_isTool h0 htool

/-- The body is no FORGET. -/
def Body.notForget (b : Body) : Prop := ∀ target, b ≠ .forget target

theorem deliver_zoningKept {n : Notice} (hforget : Body.notForget n.body)
    (hclaim : ∀ root hops generation values, n.body = .claim root hops generation values → values.isSome = true →
      isNode root = true) (s : State) : ZoningKept s (deliver n s) := by
  obtain ⟨sender, body⟩ := n
  cases body with
  | tally items => exact takeTally_zoningKept sender items s
  | claim root hops generation values =>
    exact takeClaim_zoningKept sender (c := ⟨root, hops.toNat, generation⟩) (hclaim root hops generation values rfl) s
  | forget target => exact absurd rfl (hforget target)
  | call d => exact ZoningKept.of_views (t := takeCall sender d.toNat s)
  | join d p => exact ZoningKept.of_views (t := takeJoin sender d.toNat p.toNat s)
  | stir cause => exact ZoningKept.of_views (t := takeStir sender s)
  | survey minutes => exact ZoningKept.of_views (t := takeSurvey minutes s)
  | presence zone => exact ZoningKept.of_views (t := takePresence zone s)
  | warmth zone temperature => exact ZoningKept.of_views (t := takeWarmth sender zone temperature.toInt s)
  | ask target page => exact ZoningKept.of_views (t := takeAsk target page s)
  | answer page content => exact .refl s
  | set target item value =>
    refine ite_zoningKept (t := saveRequest (setItem item.toNat value.toInt s)) fun _ => .of_views

theorem deliver_inRange {n : Notice} (hn : Notice.InRange n) (hforget : Body.notForget n.body) (s : State) :
    ZoningKept s (deliver n s) := by
  refine deliver_zoningKept hforget (fun root hops generation values hbody hvalues => ?_) s
  obtain ⟨sender, body⟩ := n
  subst hbody
  exact claim_names_node hn hvalues

/-- What the zone obeys stays also under a CLAIM out of range. -/
theorem deliver_obeyed {n : Notice} (hforget : Body.notForget n.body) (s : State) : (deliver n s).obeyed = s.obeyed := by
  by_cases hclaim : ∃ root hops generation values, n.body = .claim root hops generation values
  · obtain ⟨root, hops, generation, values, hbody⟩ := hclaim
    unfold deliver
    rw [hbody]
    exact takeClaim_obeyed _ _ _ s
  · exact (deliver_zoningKept hforget (fun root hops generation values hbody =>
      absurd ⟨root, hops, generation, values, hbody⟩ hclaim) s).obeyed

/-- A notice in range, FORGET included, taken by a part that is live. -/
theorem deliver_zoningSound {n : Notice} (hn : Notice.InRange n) {s : State} (h : s.ZoningSound) (hlive : s.live = true) :
    (deliver n s).ZoningSound := by
  by_cases hforget : Body.notForget n.body
  · exact (deliver_inRange hn hforget s).sound h
  · simp only [Body.notForget, ne_eq, not_forall, not_not] at hforget
    obtain ⟨target, hbody⟩ := hforget
    unfold deliver
    rw [hbody]
    exact takeForget_zoningSound h hlive target

theorem lineIdleThree_zoningKept (s : State) : ZoningKept s (lineIdleThree s) := .of_views

/-- A notice other than FORGET, where the framer takes notices. -/
theorem receive_zoningKept {n : Notice} (hforget : Body.notForget n.body) (s : State) : ZoningKept s (receive n s) := by
  rcases receive_cases n s with ⟨-, h⟩ | ⟨-, h⟩ <;> rw [h]
  · exact .refl s
  · refine (lineIdleThree_zoningKept s).trans ?_
    rcases applyVerdict_cases (judgeNotice n) (lineIdleThree s) with ⟨-, e⟩ | ⟨-, e⟩ | ⟨m, hm, e⟩ <;> rw [e]
    · exact .of_views
    · exact .refl _
    · exact deliver_inRange (judgeNotice_passes hm) (judgeNotice_eq hm ▸ hforget) _

theorem applyVerdict_zoningSound {v : Verdict} (hv : ∀ n, v = .passes n → Notice.InRange n) {s : State}
    (h : s.ZoningSound) (hlive : s.live = true) : (applyVerdict v s).ZoningSound := by
  rcases applyVerdict_cases v s with ⟨-, e⟩ | ⟨-, e⟩ | ⟨n, hn, e⟩ <;> rw [e]
  · exact h.outside rfl
  · exact h
  · exact deliver_zoningSound (hv n hn) h hlive

theorem receive_zoningSound {s : State} (h : s.ZoningSound) (n : Notice) : (receive n s).ZoningSound := by
  rcases receive_cases n s with ⟨-, e⟩ | ⟨hf, e⟩ <;> rw [e]
  · exact h
  · exact applyVerdict_zoningSound (fun _ => judgeNotice_passes) ((lineIdleThree_zoningKept s).sound h)
      ((lineIdleThree_probingKept s).live.trans (live_of_framing hf))

theorem receiveBytes_zoningSound {s : State} (h : s.ZoningSound) (raw : Collected) : (receiveBytes raw s).ZoningSound := by
  rcases receiveBytes_cases raw s with ⟨-, -, e⟩ | ⟨-, -, -, e⟩ | ⟨hf, e⟩ <;> rw [e]
  · exact h
  · exact h.outside rfl
  · exact applyVerdict_zoningSound (fun _ => judge_passes) ((lineIdleThree_zoningKept s).sound h)
      ((lineIdleThree_probingKept s).live.trans (live_of_framing hf))

/-- What fails its judgement is delivered to no block. -/
theorem receiveBytes_obeyed {raw : Collected} (hraw : raw.fails = true) (s : State) :
    (receiveBytes raw s).obeyed = s.obeyed := by
  rcases receiveBytes_cases raw s with ⟨-, -, e⟩ | ⟨-, -, -, e⟩ | ⟨-, e⟩ <;> rw [e]
  · rfl
  · refine Eq.trans ?_ (lineIdleThree_zoningKept s).obeyed
    rcases applyVerdict_cases (judge raw) (lineIdleThree s) with ⟨-, e⟩ | ⟨-, e⟩ | ⟨n, hn, -⟩
    · rw [e]
      rfl
    · rw [e]
    · simp [Collected.fails, hn] at hraw

/-- A FORGET received changes at most the working root of what the zone obeys. -/
theorem receive_forget_obeyed (sender target : Station) (s : State) :
    ∃ root, (receive ⟨sender, .forget target⟩ s).obeyed = { s.obeyed with working := root } := by
  have hheard := (lineIdleThree_zoningKept s).obeyed
  rcases receive_cases ⟨sender, .forget target⟩ s with ⟨-, h⟩ | ⟨-, h⟩ <;> rw [h]
  · exact ⟨_, rfl⟩
  · rcases applyVerdict_cases (judgeNotice ⟨sender, .forget target⟩) (lineIdleThree s) with ⟨-, e⟩ | ⟨-, e⟩ | ⟨m, hm, e⟩ <;>
      rw [e]
    · exact ⟨_, hheard⟩
    · exact ⟨_, hheard⟩
    · rw [judgeNotice_eq hm]
      exact ⟨_, (takeForget_obeyed target _).trans (by rw [hheard])⟩

/-! ### The completion of this node's notice (R100, R177, R178) -/

/-- The report of a CLAIM sets the announced claim and its spacing timer (R100). -/
theorem reportCompletion_zoningKept (n : Notice) (s : State) : ZoningKept s (reportCompletion n s) := by
  unfold reportCompletion
  split
  · exact ⟨rfl, fun h => h.congr ⟨rfl, rfl⟩ ⟨rfl, rfl, rfl, rfl⟩ ⟨rfl, rfl, rfl, rfl⟩⟩
  · exact .of_views
  · exact .refl s

/-- A FORGET is not looped back. -/
theorem notForget_of_loopsBack {b : Body} (h : loopsBack b = true) : Body.notForget b := by
  rintro target rfl
  cases h

/-- The completion leaves the head, reports, and loops back or not. -/
theorem completeNotice_cases (n : Notice) (r : Request) (s : State) :
    ∃ told, ZoningKept s told ∧
      (completeNotice n r s = told ∨ (loopsBack n.body = true ∧ completeNotice n r s = deliver n told)) := by
  have left (l : LineInterface) : ZoningKept s (s.withLine l) := .of_views
  refine ⟨reportCompletion n (s.withLine
    { s.line.dropHead.followOnEnters r (s.line.followOn && decide (r ≠ .claim)) with level := .idle (3 * byteTime) }),
    (left _).trans (reportCompletion_zoningKept n _), ?_⟩
  unfold completeNotice
  dsimp only
  split
  · rename_i hloops
    exact .inr ⟨hloops, rfl⟩
  · exact .inl rfl

theorem completeNotice_obeyed (n : Notice) (r : Request) (s : State) : (completeNotice n r s).obeyed = s.obeyed := by
  obtain ⟨told, hkept, e | ⟨hloops, e⟩⟩ := completeNotice_cases n r s <;> rw [e]
  · exact hkept.obeyed
  · exact (deliver_obeyed (notForget_of_loopsBack hloops) told).trans hkept.obeyed

theorem completeNotice_zoningSound {n : Notice} (hn : Notice.InRange n) (r : Request) {s : State} (h : s.ZoningSound) :
    (completeNotice n r s).ZoningSound := by
  obtain ⟨told, hkept, e | ⟨hloops, e⟩⟩ := completeNotice_cases n r s <;> rw [e]
  · exact hkept.sound h
  · exact (deliver_inRange hn (notForget_of_loopsBack hloops) told).sound (hkept.sound h)

/-! ### Start-up (R108, R194, R195) -/

/-- A phase of start-up entered, before the part runs: no generation timer runs, and where the oscillator wait is not over
no hold and no settle do. -/
theorem State.ZoningSound.enters {s : State} (h : s.ZoningSound) {p : StartPhase} (hs : s.phase ≠ .running)
    (hp : p ≠ .running) (hbefore : p = .held ∨ p = .oscillatorWait → s.phase = .held ∨ s.phase = .oscillatorWait) :
    ({ s with phase := p } : State).ZoningSound := by
  obtain ⟨hnode, hle, hcopy, hsettle, hearly⟩ := h.zone
  refine ⟨⟨h.identity, h.roots, h.claim, ?_, hnode, hle, hcopy, hsettle, fun hq => hearly (hbefore hq)⟩, h.young⟩
  exact iff_of_false (fun hruns => hs (h.duty.mp hruns).1) fun hboth => hp hboth.1

/-- A reset leaves the identity page, and so the station (R191). -/
theorem afterReset_station (s : State) : (afterReset s).station = s.station := by
  have hread := ZoneMemory.read_afterReset_page0 s.memory s.free
  simp only [State.station, afterReset, Memory.stationId, hread 0 (by omega), hread 1 (by omega), hread 2 (by omega)]

/-- The reset values: this node its own root, nobody else's known, no timer running. -/
theorem afterReset_zoningSound {s : State} (h : s.NodeIdentity) : (afterReset s).ZoningSound := by
  have hstation := afterReset_station s
  refine ⟨⟨?_, .empty, ?_, ?_, ?_⟩, fun i e he => ?_⟩
  · rwa [State.NodeIdentity, hstation]
  · rw [hstation]
    exact ⟨Nat.zero_le _, BitVec.le_refl _, h, iff_of_true rfl rfl, iff_of_true rfl rfl⟩
  · exact iff_of_false (by simp [afterReset, State.reset]) fun hboth => (by cases hboth.1)
  · unfold State.ZoneSound
    rw [hstation]
    exact ⟨h, BitVec.le_refl _, rfl, fun hruns => (by cases hruns), fun _ => ⟨rfl, rfl⟩⟩
  · exact absurd he (slotAt_emptyRoots i e)

theorem releaseReset_zoningSound {s : State} (h : s.ZoningSound) (hp : s.phase = .held) (pins : Straps) :
    (releaseReset pins s).ZoningSound :=
  (h.enters (p := .oscillatorWait) (by simp [hp]) (by decide) fun _ => .inl hp).outside rfl ⟨rfl, rfl, rfl⟩

theorem restoreLink_zoningKept (s : State) (link : Station × Half) : ZoningKept s (restoreLink s link) := by
  unfold restoreLink
  dsimp only
  split
  · exact .refl s
  · split
    · exact .of_views
    · exact .refl s

/-- The root restored is a node's, not above this node (R108, R185). -/
theorem recordValuesTaken_zoningSound {s : State} (h : s.ZoningSound) (hsettle : s.zone.settle = none)
    (hphase : s.phase = .restored) : s.recordValuesTaken.ZoningSound := by
  obtain ⟨hnode, hle, hcopy, -, -⟩ := h.zone
  have hroot : isNode s.recordValuesTaken.zone.working = true ∧ s.recordValuesTaken.zone.working ≤ s.station := by
    change isNode (if _ then _ else _) = true ∧ (if _ then _ else _) ≤ s.station
    split
    · rename_i hrecord
      exact hrecord
    · exact ⟨h.identity, BitVec.le_refl _⟩
  refine ⟨⟨h.identity, h.roots, h.claim, h.duty, hroot.1, hroot.2, hcopy, fun hruns => ?_, fun hp => ?_⟩, h.young⟩
  · have hnone : s.recordValuesTaken.zone.settle = none := hsettle
    simp [hnone] at hruns
  · have hsame : s.recordValuesTaken.phase = .restored := hphase
    rcases hp with hp | hp <;> rw [hsame] at hp <;> cases hp

/-- Step 3 of start-up before the record is restored: the generator seeded, the start-up hold started (R1, R113, R195). -/
def State.holdStarted (s : State) : State :=
  { s with phase := .restored, rng := lfsrSeed s.station, zone := { s.zone with hold := some (seconds 90) } }

theorem readPages_cases (s : State) :
    readPages s = s.holdStarted ∨
      readPages s = s.memory.nv.recordLinks.foldl restoreLink s.holdStarted.recordValuesTaken := by
  change restoreRecord s.holdStarted = _ ∨ restoreRecord s.holdStarted = _
  by_cases hgood : s.holdStarted.memory.nv.goodRecord = true
  · exact .inr (restoreRecord_good hgood)
  · exact .inl (by rw [restoreRecord, if_neg hgood])

theorem holdStarted_zoningSound {s : State} (h : s.ZoningSound) (hp : s.phase = .oscillatorWait) :
    s.holdStarted.ZoningSound := by
  obtain ⟨hnode, hle, hcopy, -, hearly⟩ := h.zone
  have hentered := h.enters (p := .restored) (by simp [hp]) (by decide) fun hq => by rcases hq with hq | hq <;> cases hq
  refine ⟨⟨h.identity, h.roots, h.claim, hentered.duty, hnode, hle, hcopy, fun hruns => ?_, fun hq => ?_⟩, h.young⟩
  · have hnone : s.holdStarted.zone.settle = none := (hearly (.inr hp)).2
    simp [hnone] at hruns
  · rcases hq with hq | hq <;> cases hq

theorem readPages_zoningSound {s : State} (h : s.ZoningSound) (hp : s.phase = .oscillatorWait) :
    (readPages s).ZoningSound := by
  have hstarted := holdStarted_zoningSound h hp
  obtain ⟨-, -, -, -, hearly⟩ := h.zone
  rcases readPages_cases s with e | e <;> rw [e]
  · exact hstarted
  · exact (ZoningKept.foldl restoreLink_zoningKept _ _).sound (recordValuesTaken_zoningSound hstarted (hearly (.inr hp)).2 rfl)

/-- The record restored changes at most the working root of what the zone obeys. -/
theorem readPages_obeyed (s : State) : ∃ root, (readPages s).obeyed = { s.obeyed with working := root } := by
  rcases readPages_cases s with e | e <;> rw [e]
  · exact ⟨_, rfl⟩
  · exact ⟨_, (ZoningKept.foldl restoreLink_zoningKept _ _).obeyed⟩

theorem startListening_zoningKept {s : State} (hp : s.phase = .restored) : ZoningKept s (startListening s) := by
  unfold startListening
  refine ⟨by simp [State.obeyed], fun h => ?_⟩
  have hentered := h.enters (p := .listenOnly) (by simp [hp]) (by decide) fun hq => by rcases hq with hq | hq <;> cases hq
  exact hentered.congr ⟨congrArg Memory.stationId (by simp), by simp⟩ (by simp) (by simp)

theorem release_zoningKept {s : State} (hp : s.phase = .listenOnly) : ZoningKept s (release s) := by
  have hrelease : release s = firstDerivation s.released := rfl
  rw [hrelease]
  have hholds : (firstDerivation s.released).election.ownGeneration = s.election.ownGeneration ∧
      (firstDerivation s.released).election.roots = s.election.roots ∧
      (firstDerivation s.released).zone.working = s.zone.working := by
    rw [firstDerivation_eq]
    have hworking : (s.released.firstHolding s.released.bestCandidate).zone.working = s.zone.working := by
      simp only [State.firstHolding]
      split <;> rfl
    simp [hworking]
    exact ⟨rfl, rfl⟩
  obtain ⟨hown, hroots, hworking⟩ := hholds
  refine ⟨?_, fun h => ⟨firstDerivation_derivedSound h.toDerivedSound hp, hroots ▸ h.young⟩⟩
  simp [State.obeyed, hown, hworking]
  exact ⟨rfl, rfl, rfl⟩

/-! ### The zone's own timers (R95, R111, R114) -/

theorem zoneChange_zoningSound {s : State} (h : s.ZoningSound) :
    (zoneChange s.zone.derivedCopy true (s.withZone { s.zone with settle := none })).ZoningSound := by
  obtain ⟨-, -, hcopy, hsettle, hearly⟩ := h.zone
  have hmoved : (s.withZone { s.zone with working := s.zone.derivedCopy, settle := none }).ZoningSound :=
    ⟨⟨h.identity, h.roots, h.claim, h.duty, hcopy ▸ h.claim.node, hcopy ▸ h.claim.le, hcopy, fun hnone => (by cases hnone),
      fun hp => ⟨(hearly hp).1, rfl⟩⟩, h.young⟩
  obtain ⟨lit, hlit, e⟩ := zoneChange_cases s.zone.derivedCopy true (s.withZone { s.zone with settle := none })
  have hkept : lit.ZoningSound := by
    rcases hlit with rfl | rfl
    · exact hmoved
    · exact hmoved.outside (congrArg Memory.stationId (by simp))
  rw [e, if_pos rfl]
  exact hkept.outside (congrArg Memory.stationId (by simp))

theorem zoneChange_obeyed (root : Station) (save : Bool) (s : State) :
    ∃ r, (zoneChange root save s).obeyed = { s.obeyed with working := r } := by
  obtain ⟨lit, hlit, e⟩ := zoneChange_cases root save s
  have hkept : lit.obeyed = { s.obeyed with working := root } := by
    rcases hlit with rfl | rfl
    · rfl
    · simp [State.obeyed]
  have hroster (x : State) : (emptyRoster x).obeyed = x.obeyed := by simp [State.obeyed]
  have hsave (x : State) : (saveRequest x).obeyed = x.obeyed := by simp [State.obeyed]
  rw [e]
  refine ⟨root, ?_⟩
  split
  · rw [hsave, hroster, hkept]
  · rw [hroster, hkept]

/-- The hold ends: the copy is compared with the working root (R114). -/
theorem holdEnd_zoningKept {s : State} (hruns : s.zone.hold.isSome = true) :
    ZoningKept s (s.withZone { s.zone with
      hold := none, settle := if s.zone.derivedCopy = s.zone.working then none else some (seconds 60) }) := by
  refine ⟨rfl, fun h => ?_⟩
  obtain ⟨hnode, hle, hcopy, -, hearly⟩ := h.zone
  refine ⟨⟨h.identity, h.roots, h.claim, h.duty, hnode, hle, hcopy, fun hsettles => ⟨rfl, fun heq => ?_⟩, fun hp => ?_⟩,
    h.young⟩
  · have heq : s.zone.derivedCopy = s.zone.working := heq
    simp [heq] at hsettles
  · simp [(hearly hp).1] at hruns

theorem generationRaised_zoningSound {s : State} (h : s.ZoningSound) (hruns : s.election.generationTimer.isSome = true) :
    s.generationRaised.ZoningSound :=
  h.congr ⟨rfl, rfl⟩ ⟨rfl, rfl, rfl, hruns.symm⟩ ⟨rfl, rfl, rfl, rfl⟩

theorem claimSpacingEnd_zoningKept (s : State) :
    ZoningKept s (announcementCheck (s.withElection { s.election with claimSpacing := none })) := by
  have ended : ZoningKept s (s.withElection { s.election with claimSpacing := none }) :=
    ⟨rfl, fun h => h.congr ⟨rfl, rfl⟩ ⟨rfl, rfl, rfl, rfl⟩ ⟨rfl, rfl, rfl, rfl⟩⟩
  exact ended.trans .of_views

/-! ### The rounds, the lamp and the cycle -/

theorem passGuard_zoningKept (s : State) : ZoningKept s (passGuard s) := by
  unfold passGuard
  dsimp only
  split
  · exact .of_views
  · exact .of_views

theorem beginChips_zoningKept (s : State) : ZoningKept s (beginChips s) := by
  unfold beginChips
  rcases startSense_cases _ with ⟨-, e⟩ | e <;> rw [e]
  · exact .of_views
  · exact .of_views

theorem signalChip_zoningKept (j : Nat) (s : State) : ZoningKept s (signalChip j s) := by
  unfold signalChip
  exact .of_views

theorem startLight_zoningKept (s : State) : ZoningKept s (startLight s) := by
  unfold startLight
  exact .of_views

theorem endLight_zoningKept (code : AdcCode) (s : State) : ZoningKept s (endLight code s) := by
  unfold endLight
  exact .of_views

theorem endTemperature_zoningKept (b : Burst) (code : AdcCode) (s : State) : ZoningKept s (endTemperature b code s) := by
  unfold endTemperature
  dsimp only
  split
  · exact .of_views
  · exact .of_views

theorem giveUpTurn_zoningKept (s : State) : ZoningKept s (giveUpTurn s) := by
  unfold giveUpTurn
  dsimp only
  split
  · exact .of_views
  · exact .of_views

theorem becomeWanting_zoningKept (s : State) : ZoningKept s (becomeWanting s) := by
  unfold becomeWanting
  exact .of_views

/-- The lamp changes but for its output level. -/
theorem withLight_zoningKept (s : State) (x : Lighting) (h : x.output = s.light.output := by rfl) :
    ZoningKept s (s.withLight x) := .of_views ⟨rfl, rfl, rfl, rfl, rfl, h, rfl⟩

theorem localPresence_zoningKept (s : State) : ZoningKept s (localPresence s) := .of_views

theorem endWindow_zoningKept (s : State) : ZoningKept s (endWindow s) := by
  have present : ZoningKept s (localPresence (s.withLight { s.light with held := true })) :=
    (withLight_zoningKept s _).trans (localPresence_zoningKept _)
  unfold endWindow
  split
  · exact present.trans (withLight_zoningKept _ _)
  · exact withLight_zoningKept s _

theorem takeSample_zoningKept (active : Bool) (s : State) : ZoningKept s (takeSample active s) := by
  unfold takeSample
  dsimp only
  generalize (if active then s.light.activeCount + 1 else s.light.activeCount) = count
  split
  · exact (withLight_zoningKept s _).trans (endWindow_zoningKept _)
  · exact withLight_zoningKept s _

theorem takePulseSample_zoningKept (pinHigh : Bool) (s : State) : ZoningKept s (takePulseSample pinHigh s) := by
  have noted : ZoningKept s (s.withLight { s.light with
      pin := pinHigh, sampling := s.samplePeriod, sampled := some pinHigh }) := withLight_zoningKept s _
  have accepted (x : State) : ZoningKept x (acceptEdge x) :=
    (withLight_zoningKept x { x.light with held := true, lockout := some (seconds 1) }).trans (localPresence_zoningKept _)
  rcases takePulseSample_cases pinHigh s with ⟨-, -, -, h⟩ | ⟨-, h⟩ <;> rw [h]
  · exact noted.trans (accepted _)
  · exact noted

/-- A sample, by the mode of the occupancy sensor (R122). -/
theorem occupancySample_zoningKept (pinHigh : Bool) (s : State) :
    ∃ t, execOccupancySample pinHigh s = .next t ∧ ZoningKept s t := by
  have read : ZoningKept s (readPin pinHigh s) := withLight_zoningKept s _
  refine ⟨_, rfl, ?_⟩
  split
  · split
    · exact read.trans (takeSample_zoningKept _ _)
    · exact read.trans (takeSample_zoningKept _ _)
    · exact takePulseSample_zoningKept _ _
    · exact withLight_zoningKept s _
  · exact withLight_zoningKept s _

/-- The fade moves the output level, which is no matter of the election. -/
theorem fadeStep_zoningSound {s : State} (h : s.ZoningSound) : (fadeStep s).ZoningSound :=
  h.outside (congrArg Memory.stationId (by simp))

/-- A cycle of the crystal counts timers, and starts and stops none. -/
theorem crystalCycle_zoningKept (s : State) : ZoningKept s (crystalCycle s) := by
  have ticked (x : State) : ZoningKept x (freeTick x) := by
    have hticks (t : Timer) : Option.isSome (Timer.tick t) = t.isSome := Timer.tick_isSome t
    unfold freeTick
    dsimp only
    split
    · exact ⟨rfl, fun h => h.congr ⟨rfl, rfl⟩ ⟨rfl, rfl, rfl, hticks _⟩ ⟨rfl, rfl, hticks _, hticks _⟩⟩
    · exact ⟨rfl, fun h => h.congr ⟨rfl, rfl⟩ ⟨rfl, rfl, rfl, rfl⟩ ⟨rfl, rfl, rfl, hticks _⟩⟩
  unfold crystalCycle
  dsimp only
  split
  · exact .of_views ⟨rfl, rfl, rfl, rfl, rfl, rfl, rfl⟩
  · refine ZoningKept.trans ?_ (ticked _)
    exact .of_views ⟨rfl, rfl, rfl, rfl, rfl, rfl, rfl⟩

/-! ### The commands -/

/-- The commands that can move what the zone obeys or need more than a sound zone: start-up's first three, FORGET, this
node's own notice completed, bytes collected, and the own generation's, the settle's, the damper's and the lamp's events. -/
def leavesZone : Instr → Bool
  | .reset | .resetRelease _ | .oscillatorWaitEnd | .forget _ _ | .noticeCompletion | .discardedNotice _
  | .generationTimerExpiry | .settleTimerExpiry | .controlStep | .fadeTick | .startOfSettle => false
  | _ => true

/-- A command answers a state in which what the zone obeys and a sound zone are kept. -/
def AnswersZoning (s : State) (r : Result) : Prop := ∃ t, r = .next t ∧ ZoningKept s t

theorem ZoningKept.answers {s t : State} (h : ZoningKept s t) : AnswersZoning s (.next t) := ⟨t, rfl, h⟩

theorem AnswersZoning.onCondition {p : Prop} [Decidable p] {s t : State} (h : p → ZoningKept s t) :
    AnswersZoning s (.next (if p then t else s)) := (ite_zoningKept h).answers

theorem AnswersZoning.onExpiry {s : State} {timer : Timer} {effect : State → State}
    (h : timer.isSome = true → ZoningKept s (effect s)) : AnswersZoning s (.next (onExpiry timer effect s)) :=
  (onExpiry_zoningKept h).answers

theorem execTemperatureConversionEnd_zoning (code : AdcCode) (s : State) :
    AnswersZoning s (execTemperatureConversionEnd code s) := by
  refine ZoningKept.answers ?_
  split
  · exact ite_zoningKept fun _ => endTemperature_zoningKept _ code s
  · exact .refl s

theorem execLineWin_zoning (s : State) : AnswersZoning s (execLineWin s) := by
  refine ZoningKept.answers ?_
  split
  · exact .of_views
  · exact .refl s

theorem execLoss_zoning (s : State) : AnswersZoning s (execLoss s) := by
  refine ZoningKept.answers ?_
  split
  · exact .of_views
  · exact .refl s

theorem execWarmthTimerExpiry_zoning (s : State) : AnswersZoning s (execWarmthTimerExpiry s) := by
  refine AnswersZoning.onExpiry fun _ => ?_
  dsimp only
  split
  · exact .of_views
  · exact .of_views

/-- The record area changes; the identity page, which names the station, does not. -/
theorem execSaveCompletion_zoning (s : State) : AnswersZoning s (execSaveCompletion s) := by
  refine ZoningKept.answers ?_
  split
  · have written (z : ZoneMemory) (h : ∀ a, a < 32 → z.nv.read a = s.memory.nv.read a) : ZoningKept s (s.withMemory z) :=
      .of_station (ProbingKept.of_memory h).station
    exact written _ fun a ha => Memory.read_writeRecord_page0 _ _ a ha
  · exact .refl s

theorem execClearCompletion_zoning (s : State) : AnswersZoning s (execClearCompletion s) := by
  refine ZoningKept.answers ?_
  split
  · have cleared : ProbingKept s (s.withMemory { s.memory with nv := s.memory.nv.clearRecord, engine := .idle }) :=
      .of_memory fun a ha => Memory.read_clearRecord_page0 s.memory.nv a ha
    exact (ZoningKept.of_station cleared.station).trans .of_views
  · exact .refl s

theorem exec_zoningKept {c : Instr} (hc : leavesZone c = true) (s : State) : AnswersZoning s (exec c s) := by
  cases c with
  | startOfListenOnly => exact .onCondition fun hp => startListening_zoningKept hp
  | endOfListenOnly => exact .onCondition fun hp => release_zoningKept hp
  | call | join | tally | stir | survey | claim | presence | warmth | ask | answer | set =>
    exact (receive_zoningKept (fun _ h => by cases h) s).answers
  | guardStart => exact .onCondition fun _ => passGuard_zoningKept s
  | startOfChips => exact .onCondition fun _ => beginChips_zoningKept s
  | chipSignal chip => exact .onCondition fun _ => signalChip_zoningKept _ s
  | chipSample => exact .onCondition fun _ => startLight_zoningKept s
  | lightConversionEnd code => exact .onCondition fun _ => endLight_zoningKept code s
  | roundClose => exact .onCondition fun _ => closeRound_zoningKept s
  | sampleTimerExpiry => exact .onExpiry fun _ => .of_views
  | temperatureConversionEnd code => exact execTemperatureConversionEnd_zoning code s
  | probeTimerExpiry => exact .onCondition fun _ => onExpiry_zoningKept fun _ => becomeWanting_zoningKept s
  | retryDelayExpiry => exact .onCondition fun _ => onExpiry_zoningKept fun _ => .of_views
  | wantDeadlineExpiry => exact .onCondition fun _ => onExpiry_zoningKept fun _ => giveUpTurn_zoningKept s
  | briskTimerExpiry => exact .onExpiry fun _ => .of_views
  | headFixing => exact .onCondition fun _ => .of_views
  | lineWin => exact execLineWin_zoning s
  | loss => exact execLoss_zoning s
  | backoffResume => exact .onCondition fun _ => .of_views
  | lineStartBit | framerFirstIdle | pwmReload | compareMatch => exact .onCondition fun _ => .of_views
  | agingMinute => exact .onExpiry fun _ => ZoningKept.trans .of_views (ageTable_zoningKept _)
  | ageSecond => exact .onExpiry fun _ => ageRoots_zoningKept s
  | claimSpacingExpiry => exact .onExpiry fun _ => claimSpacingEnd_zoningKept s
  | startUpHoldEnd => exact .onExpiry fun hruns => holdEnd_zoningKept hruns
  | stirSpacingExpiry | lockoutExpiry | presenceSpacingExpiry | rosterSecond | restTimerExpiry | linkHoldOffExpiry =>
    exact .onExpiry fun _ => .of_views
  | occupancySample pinHigh => exact occupancySample_zoningKept pinHigh s
  | risingEdge =>
    exact .onCondition fun _ => (takePulseSample_zoningKept false s).trans (takePulseSample_zoningKept true _)
  | holdTimerExpiry | graceTimerExpiry => exact .onCondition fun _ => onExpiry_zoningKept fun _ => .of_views
  | readingHoldExpiry => exact .onExpiry fun _ => .of_views
  | warmthTimerExpiry => exact execWarmthTimerExpiry_zoning s
  | saveCompletion => exact execSaveCompletion_zoning s
  | clearCompletion => exact execClearCompletion_zoning s
  | _ => cases hc

/-! ### Every step (O57) -/

theorem ite_zoningSound {p : Prop} [Decidable p] {s t : State} (hs : s.ZoningSound) (h : p → t.ZoningSound) :
    (if p then t else s).ZoningSound := by
  split
  · rename_i hp; exact h hp
  · exact hs

theorem onExpiry_zoningSound {effect : State → State} {s : State} {timer : Timer} (hs : s.ZoningSound)
    (h : timer.isSome = true → (effect s).ZoningSound) : (onExpiry timer effect s).ZoningSound :=
  ite_zoningSound hs h

theorem controlLaw_zoningSound {s : State} (h : s.ZoningSound) : (controlLaw s).ZoningSound := by
  rcases controlLaw_cases s with ⟨-, e⟩ | ⟨_, e⟩ <;> rw [e]
  · exact h
  · exact h.outside rfl

theorem execFadeTick_zoningSound {s : State} (h : s.ZoningSound) :
    ∃ t, execFadeTick s = .next t ∧ t.ZoningSound := by
  have hreloaded : (s.withLight { s.light with fadeTick := some (milliseconds 25) }).ZoningSound := h.outside rfl
  refine ⟨_, rfl, onExpiry_zoningSound h fun _ => ?_⟩
  dsimp only
  split
  · exact hreloaded
  · exact fadeStep_zoningSound hreloaded

theorem beginSettle_zoningSound {s : State} (h : s.ZoningSound) : (beginSettle s).ZoningSound := by
  rw [beginSettle_eq]
  exact h.outside rfl ⟨rfl, rfl, rfl⟩

theorem execNoticeCompletion_zoningSound {s : State} (hs : s.Sound) :
    ∃ t, execNoticeCompletion s = .next t ∧ t.ZoningSound := by
  refine ⟨_, rfl, ?_⟩
  split
  · rename_i hc _
    exact completeNotice_zoningSound (hs.line.inRange_of_sending hc) _ hs.zoning
  · exact hs.zoning

/-- Every command, from a sound state, answers a state in which election and zone are sound. -/
theorem exec_zoningSound {s : State} (hs : s.Sound) (c : Instr) : ∃ t, exec c s = .next t ∧ t.ZoningSound := by
  have hz := hs.zoning
  cases hc : leavesZone c with
  | true =>
    obtain ⟨t, ht, hkept⟩ := exec_zoningKept hc s
    exact ⟨t, ht, hkept.sound hz⟩
  | false =>
    cases c with
    | reset => exact ⟨_, rfl, afterReset_zoningSound hs.identity⟩
    | resetRelease pins => exact ⟨_, rfl, ite_zoningSound hz fun hp => releaseReset_zoningSound hz hp pins⟩
    | oscillatorWaitEnd => exact ⟨_, rfl, ite_zoningSound hz fun hp => readPages_zoningSound hz hp⟩
    | forget sender target => exact ⟨_, rfl, receive_zoningSound hz _⟩
    | discardedNotice raw => exact ⟨_, rfl, receiveBytes_zoningSound hz raw⟩
    | noticeCompletion => exact execNoticeCompletion_zoningSound hs
    | generationTimerExpiry =>
      exact ⟨_, rfl, onExpiry_zoningSound hz fun hruns => (derive_zoningKept _).sound (generationRaised_zoningSound hz hruns)⟩
    | settleTimerExpiry => exact ⟨_, rfl, onExpiry_zoningSound hz fun _ => zoneChange_zoningSound hz⟩
    | controlStep =>
      exact ⟨_, rfl, ite_zoningSound hz fun _ => onExpiry_zoningSound hz fun _ => controlLaw_zoningSound (hz.outside rfl)⟩
    | fadeTick => exact execFadeTick_zoningSound hz
    | startOfSettle => exact ⟨_, rfl, ite_zoningSound hz fun _ => beginSettle_zoningSound hz⟩
    | _ => cases hc

/-- So does every step. -/
theorem step_zoningSound {s : State} (hs : s.Sound) : ∃ t, step s = .next t ∧ t.ZoningSound := by
  unfold step stepQueue
  split
  · rename_i c rest _
    exact exec_zoningSound (hs.withQueue rest s.free) c
  · rcases idleStep_cases s with ⟨-, h⟩ | ⟨-, -, h⟩ | ⟨c, -, -, h | h⟩ <;> rw [h]
    · exact ⟨s, rfl, hs.zoning⟩
    · exact ⟨_, rfl, (crystalCycle_zoningKept s).sound hs.zoning⟩
    · exact exec_zoningSound hs c
    · exact exec_zoningSound (hs.withQueue s.pending (s.free + 1)) c

/-- Settles O57: every command and every cycle of the crystal keeps the election and the zone sound. -/
theorem everyStepKeepsTheElectionAndTheZone : Obligations.EveryStepKeepsTheElectionAndTheZone := by
  intro s t hs hstep
  obtain ⟨u, hu, hsound⟩ := step_zoningSound hs
  obtain rfl : u = t := by simpa [hu] using hstep
  exact ⟨hsound.electionSound, hsound.zone⟩

end Sys2Proof.Machine

/-! SUPPORT. What each command changes of what the zone obeys (R95, R107, R136, R159, R194). -/

namespace Sys2Proof.Machine

-- One thread, as above: a thread per theorem exceeds the memory limit of the check.
set_option Elab.async false

theorem execOscillatorWaitEnd_obeyed (s : State) :
    ∃ t root, execOscillatorWaitEnd s = .next t ∧ t.obeyed = { s.obeyed with working := root } := by
  unfold execOscillatorWaitEnd
  split
  · obtain ⟨root, h⟩ := readPages_obeyed s
    exact ⟨_, root, rfl, h⟩
  · exact ⟨s, _, rfl, rfl⟩

theorem execSettleTimerExpiry_obeyed (s : State) :
    ∃ t root, execSettleTimerExpiry s = .next t ∧ t.obeyed = { s.obeyed with working := root } := by
  unfold execSettleTimerExpiry onExpiry
  split
  · obtain ⟨root, h⟩ := zoneChange_obeyed s.zone.derivedCopy true (s.withZone { s.zone with settle := none })
    exact ⟨_, root, rfl, h⟩
  · exact ⟨s, _, rfl, rfl⟩

theorem execNoticeCompletion_obeyed (s : State) : ∃ t, execNoticeCompletion s = .next t ∧ t.obeyed = s.obeyed := by
  refine ⟨_, rfl, ?_⟩
  split
  · exact completeNotice_obeyed _ _ s
  · rfl

theorem execGenerationTimerExpiry_obeyed (s : State) :
    ∃ t generation, execGenerationTimerExpiry s = .next t ∧ t.obeyed = { s.obeyed with generation := generation } := by
  unfold execGenerationTimerExpiry onExpiry
  split
  · exact ⟨_, _, rfl, (derive_zoningKept s.generationRaised).obeyed⟩
  · exact ⟨s, _, rfl, rfl⟩

/-- The damper moves by 24 at most (R159). -/
theorem controlLaw_obeyed (s : State) :
    ∃ damper, (controlLaw s).obeyed = { s.obeyed with damper := damper } ∧
      damper ≤ s.climate.damper + 24 ∧ s.climate.damper ≤ damper + 24 := by
  rcases controlLaw_cases s with ⟨-, e⟩ | ⟨mean, e⟩ <;> rw [e]
  · exact ⟨s.climate.damper, rfl, Nat.le_add_right _ _, Nat.le_add_right _ _⟩
  · obtain ⟨hup, hdown, -⟩ := moveToward_spec s.climate.damper (demandOf (mean - s.effectiveSetpoint)) 24 24
    exact ⟨_, rfl, hup, hdown⟩

theorem execControlStep_obeyed (s : State) :
    ∃ t damper, execControlStep s = .next t ∧ t.obeyed = { s.obeyed with damper := damper } ∧
      damper ≤ s.climate.damper + 24 ∧ s.climate.damper ≤ damper + 24 := by
  have still : ∃ t damper, (.next s : Result) = .next t ∧ t.obeyed = { s.obeyed with damper := damper } ∧
      damper ≤ s.climate.damper + 24 ∧ s.climate.damper ≤ damper + 24 :=
    ⟨s, _, rfl, rfl, Nat.le_add_right _ _, Nat.le_add_right _ _⟩
  unfold execControlStep onExpiry
  split
  · split
    · obtain ⟨damper, h, hbound⟩ := controlLaw_obeyed (s.withClimate { s.climate with controlTimer := some (seconds 60) })
      exact ⟨_, damper, rfl, h, hbound⟩
    · exact still
  · exact still

theorem fadeStep_obeyed (s : State) : ∃ output, (fadeStep s).obeyed = { s.obeyed with output := output } := by
  rcases fadeStep_cases s with ⟨-, e⟩ | e <;> rw [e]
  · exact ⟨_, rfl⟩
  · exact ⟨_, rfl⟩

/-- FADE_TICK moves the output level outside CHIPS (R136). -/
theorem execFadeTick_obeyed (s : State) :
    ∃ t output, execFadeTick s = .next t ∧ t.obeyed = { s.obeyed with output := output } ∧
      (s.round.phase = .chips → output = s.light.output) := by
  unfold execFadeTick onExpiry
  dsimp only
  split
  · split
    · exact ⟨_, _, rfl, rfl, fun _ => rfl⟩
    · rename_i hchips
      obtain ⟨output, h⟩ := fadeStep_obeyed (s.withLight { s.light with fadeTick := some (milliseconds 25) })
      exact ⟨_, output, rfl, h, fun hp => absurd hp hchips⟩
  · exact ⟨s, _, rfl, rfl, fun _ => rfl⟩

/-- START_OF_SETTLE moves the output level as it ends CHIPS (R9). -/
theorem execStartOfSettle_obeyed (s : State) :
    ∃ t output, execStartOfSettle s = .next t ∧ t.obeyed = { s.obeyed with output := output } ∧
      (s.round.phase = .chips → t.round.phase = .settle) := by
  unfold execStartOfSettle
  split
  · rw [beginSettle_eq]
    exact ⟨_, _, rfl, rfl, fun _ => rfl⟩
  · rename_i hchips
    exact ⟨s, _, rfl, rfl, fun hp => absurd hp hchips⟩

/-- What a command may change of what the zone obeys: the first six clauses of O60. -/
structure Obeyed.ChangedBy (c : Instr) (before after : Obeyed) : Prop where
  working : (∀ sender target, c ≠ .forget sender target) → c ≠ .settleTimerExpiry → c ≠ .reset → c ≠ .oscillatorWaitEnd →
    after.working = before.working
  straps : c ≠ .reset → (∀ pins, c ≠ .resetRelease pins) → after.straps = before.straps
  damper : c ≠ .reset → c ≠ .controlStep → after.damper = before.damper
  damper_step : c = .controlStep → after.damper ≤ before.damper + 24 ∧ before.damper ≤ after.damper + 24
  generation : c ≠ .reset → c ≠ .generationTimerExpiry → after.generation = before.generation
  output : c ≠ .reset → c ≠ .fadeTick → c ≠ .startOfSettle → after.output = before.output

theorem Obeyed.ChangedBy.refl (c : Instr) (o : Obeyed) : Obeyed.ChangedBy c o o :=
  ⟨fun _ _ _ _ => rfl, fun _ _ => rfl, fun _ _ => rfl, fun _ => ⟨Nat.le_add_right _ _, Nat.le_add_right _ _⟩, fun _ _ => rfl,
    fun _ _ _ => rfl⟩

theorem exec_changedBy {c : Instr} (hwf : c.wellFormed = true) (s : State) :
    ∃ t, exec c s = .next t ∧ Obeyed.ChangedBy c s.obeyed t.obeyed := by
  cases hc : leavesZone c with
  | true =>
    obtain ⟨t, ht, hkept⟩ := exec_zoningKept hc s
    exact ⟨t, ht, hkept.obeyed ▸ .refl c _⟩
  | false =>
    cases c with
    | reset => exact ⟨_, rfl, by constructor <;> simp⟩
    | resetRelease pins =>
      have hlatched : ∃ t straps, exec (.resetRelease pins) s = .next t ∧ t.obeyed = { s.obeyed with straps := straps } := by
        simp only [exec, execResetRelease]
        split
        · exact ⟨_, pins, rfl, rfl⟩
        · exact ⟨s, _, rfl, rfl⟩
      obtain ⟨t, straps, ht, hobeyed⟩ := hlatched
      exact ⟨t, ht, hobeyed ▸ { Obeyed.ChangedBy.refl _ s.obeyed with straps := fun _ h => absurd rfl (h pins) }⟩
    | oscillatorWaitEnd =>
      obtain ⟨t, root, ht, hobeyed⟩ := execOscillatorWaitEnd_obeyed s
      exact ⟨t, ht, hobeyed ▸ { Obeyed.ChangedBy.refl _ s.obeyed with working := fun _ _ _ h => absurd rfl h }⟩
    | settleTimerExpiry =>
      obtain ⟨t, root, ht, hobeyed⟩ := execSettleTimerExpiry_obeyed s
      exact ⟨t, ht, hobeyed ▸ { Obeyed.ChangedBy.refl _ s.obeyed with working := fun _ h _ _ => absurd rfl h }⟩
    | forget sender target =>
      obtain ⟨root, hobeyed⟩ := receive_forget_obeyed sender target s
      exact ⟨_, rfl, hobeyed ▸ { Obeyed.ChangedBy.refl _ s.obeyed with working := fun h _ _ _ => absurd rfl (h sender target) }⟩
    | noticeCompletion =>
      obtain ⟨t, ht, hobeyed⟩ := execNoticeCompletion_obeyed s
      exact ⟨t, ht, hobeyed ▸ .refl _ _⟩
    | discardedNotice raw => exact ⟨_, rfl, receiveBytes_obeyed hwf s ▸ .refl _ _⟩
    | generationTimerExpiry =>
      obtain ⟨t, generation, ht, hobeyed⟩ := execGenerationTimerExpiry_obeyed s
      exact ⟨t, ht, hobeyed ▸ { Obeyed.ChangedBy.refl _ s.obeyed with generation := fun _ h => absurd rfl h }⟩
    | controlStep =>
      obtain ⟨t, damper, ht, hobeyed, hbound⟩ := execControlStep_obeyed s
      exact ⟨t, ht, hobeyed ▸
        { Obeyed.ChangedBy.refl _ s.obeyed with damper := fun _ h => absurd rfl h, damper_step := fun _ => hbound }⟩
    | fadeTick =>
      obtain ⟨t, output, ht, hobeyed, -⟩ := execFadeTick_obeyed s
      exact ⟨t, ht, hobeyed ▸ { Obeyed.ChangedBy.refl _ s.obeyed with output := fun _ h _ => absurd rfl h }⟩
    | startOfSettle =>
      obtain ⟨t, output, ht, hobeyed, -⟩ := execStartOfSettle_obeyed s
      exact ⟨t, ht, hobeyed ▸ { Obeyed.ChangedBy.refl _ s.obeyed with output := fun _ _ h => absurd rfl h }⟩
    | _ => cases hc

/-- A command that leaves the round in CHIPS leaves the output level (R136). -/
theorem output_of_chips {c : Instr} {s t : State} (hexec : exec c s = .next t) (hchanged : Obeyed.ChangedBy c s.obeyed t.obeyed)
    (hs : s.round.phase = .chips) (ht : t.round.phase = .chips) : t.light.output = s.light.output := by
  have answered {u : State} (h : exec c s = .next u) : u = t := by simpa [h] using hexec
  by_cases hreset : c = .reset
  · subst hreset
    obtain rfl := answered rfl
    cases ht
  by_cases hfade : c = .fadeTick
  · subst hfade
    obtain ⟨u, output, hu, hobeyed, hchips⟩ := execFadeTick_obeyed s
    obtain rfl := answered hu
    exact (congrArg Obeyed.output hobeyed).trans (hchips hs)
  by_cases hsettle : c = .startOfSettle
  · subst hsettle
    obtain ⟨u, output, hu, -, hends⟩ := execStartOfSettle_obeyed s
    obtain rfl := answered hu
    rw [hends hs] at ht
    cases ht
  exact hchanged.output hreset hfade hsettle

/-- Settles O60, by what each command changes of what the zone obeys. -/
theorem onlyTheirOwnEventsChangeWhatTheZoneObeys : Obligations.OnlyTheirOwnEventsChangeWhatTheZoneObeys := by
  intro c s t hwf hexec
  obtain ⟨u, hu, hchanged⟩ := exec_changedBy hwf s
  obtain rfl : u = t := by simpa [hu] using hexec
  exact ⟨hchanged.working, hchanged.straps, hchanged.damper, hchanged.damper_step, hchanged.generation, hchanged.output,
    output_of_chips hu hchanged⟩

end Sys2Proof.Machine

/-! SUPPORT. The settle timer's expiry, the end of the start-up hold and a root handed on (R109 to R114, R128, R154, R187). -/

namespace Sys2Proof.Machine

-- One thread, as above: a thread per theorem exceeds the memory limit of the check.
set_option Elab.async false

/-! ### The zone change (R111, R112) -/

/-- The roster of a terminal node is all that is emptied (R154): after operations that leave the climate and the straps of
`s`, what is emptied is the roster of `s`. -/
theorem emptyRoster_of_unchanged {s lit : State} (hstraps : lit.straps = s.straps) (hclimate : lit.climate = s.climate) :
    emptyRoster lit = { lit with
      climate := { s.climate with roster := if s.terminal then List.replicate 24 none else s.climate.roster } } := by
  have hterminal : lit.terminal = s.terminal := by rw [State.terminal, hstraps]; rfl
  rw [emptyRoster, hterminal, ← hclimate]
  split
  · rfl
  · rfl

/-- A zone change with a save: moving the root and offering a PRESENCE leave the roster it empties. -/
theorem zoneChange_saved (root : Station) (s : State) :
    zoneChange root true s =
      (let moved : State := { s with zone := { s.zone with working := root } }
      let lit := if s.light.held then offer .presence moved else moved
      saveRequest { lit with
        climate := { s.climate with
          roster := if s.terminal then List.replicate 24 none else s.climate.roster } }) := by
  refine congrArg saveRequest (emptyRoster_of_unchanged ?hstraps ?hclimate)
  case hstraps => split <;> simp
  case hclimate => split <;> simp

theorem exec_settleTimerExpiry {s : State} (h : s.zone.settle.isSome = true) :
    exec .settleTimerExpiry s =
      .next (zoneChange s.zone.derivedCopy true (s.withZone { s.zone with settle := none })) := by
  simp only [exec, execSettleTimerExpiry, onExpiry, if_pos h]

/-- Settles O31, by what a zone change with a save makes of the part. -/
theorem settleTimerExpiryChangesTheZone : Obligations.SettleTimerExpiryChangesTheZone := by
  intro s hruns
  rw [exec_settleTimerExpiry hruns, zoneChange_saved]
  rfl

/-! ### The comparison of the derived root copy with the working root (R110, R114) -/

theorem exec_startUpHoldEnd {s : State} (h : s.zone.hold.isSome = true) :
    exec .startUpHoldEnd s = .next (s.withZone { s.zone with
      hold := none, settle := if s.zone.derivedCopy = s.zone.working then none else some (seconds 60) }) := by
  simp only [exec, execStartUpHoldEnd, onExpiry, if_pos h]

/-- Settles O32: the end of the hold and a root handed on change the Working Zone Unit alone. -/
theorem startUpHoldEndComparesTheDerivedRoot : Obligations.StartUpHoldEndComparesTheDerivedRoot :=
  ⟨fun _ hruns => exec_startUpHoldEnd hruns, fun _ _ => rfl⟩

end Sys2Proof.Machine

/-! SUPPORT. The straps, the lamp's compares and fade, zone presence and local presence (R122 to R141, R194, R197). -/

namespace Sys2Proof.Machine

-- One thread, as above: a thread per theorem exceeds the memory limit of the check.
set_option Elab.async false

/-! ### The straps (R194, R197) -/

theorem strapField_one (w : Straps) (i : Nat) : strapField w i 1 = (w.getLsbD i).toNat := by
  rw [strapField, BitVec.getLsbD, Nat.toNat_testBit, Nat.shiftRight_eq_div_pow, Nat.pow_one]

/-- Two pins are a number with the higher pin as its 2s. -/
theorem strapField_two (w : Straps) (i : Nat) :
    strapField w i 2 = 2 * (w.getLsbD (i + 1)).toNat + (w.getLsbD i).toNat := by
  have hhigh : w.toNat / 2 ^ (i + 1) = w.toNat / 2 ^ i / 2 := by rw [Nat.pow_succ, Nat.div_div_eq_div_mul]
  rw [strapField, BitVec.getLsbD, BitVec.getLsbD, Nat.toNat_testBit, Nat.toNat_testBit, Nat.shiftRight_eq_div_pow, hhigh]
  omega

theorem State.terminal_eq (s : State) : s.terminal = s.straps.getLsbD 10 := by
  rw [State.terminal, strapField_one]
  cases s.straps.getLsbD 10 <;> rfl

theorem State.depth_eq (s : State) :
    s.depth = 20 * (2 * (s.straps.getLsbD 7).toNat + (s.straps.getLsbD 6).toNat + 1) := by
  rw [State.depth, strapField_two]
  cases s.straps.getLsbD 7 <;> cases s.straps.getLsbD 6 <;> rfl

theorem State.gain_eq (s : State) : s.gain = if s.straps.getLsbD 5 then 2 else 1 := by
  rw [State.gain, strapField_one]
  cases s.straps.getLsbD 5 <;> rfl

theorem State.reload_eq (s : State) : s.reload = if s.straps.getLsbD 4 then 524 else 24 := by
  rw [State.reload, strapField_one]
  cases s.straps.getLsbD 4 <;> rfl

theorem State.holdTime_eq (s : State) :
    s.holdTime = seconds (match s.straps.getLsbD 3, s.straps.getLsbD 2 with
      | false, false => 300 | false, true => 600 | true, false => 900 | true, true => 1800) := by
  rw [State.holdTime, strapField_two]
  cases s.straps.getLsbD 3 <;> cases s.straps.getLsbD 2 <;> rfl

theorem State.occMode_eq (s : State) : s.occMode = 2 * (s.straps.getLsbD 1).toNat + (s.straps.getLsbD 0).toNat :=
  strapField_two s.straps 0

theorem State.occMode_le (s : State) : s.occMode ≤ 3 := by
  rw [s.occMode_eq]
  have h1 := (s.straps.getLsbD 1).toNat_le
  have h0 := (s.straps.getLsbD 0).toNat_le
  omega

theorem State.reload_cases (s : State) : s.reload = 24 ∨ s.reload = 524 := by
  rw [s.reload_eq]
  split
  · exact .inr rfl
  · exact .inl rfl

/-! ### The compare of a level (R139) -/

theorem compareOf_zero (r : Nat) : compareOf r 0 = r := by simp [compareOf]

theorem compareOf_full {r : Nat} (h : r ≤ 1024) : compareOf r 1000 = 1024 := by
  rw [compareOf, Nat.mul_div_cancel_left _ (by decide)]
  omega

theorem compareOf_mono (r : Nat) {lower level : Nat} (h : lower ≤ level) : compareOf r lower ≤ compareOf r level :=
  Nat.add_le_add_left (Nat.div_le_div_right (Nat.mul_le_mul_right _ h)) r

/-- A level lies between 0 and 1000, and so its compare between R and 1024. -/
theorem compareOf_range {r level : Nat} (hr : r ≤ 1024) (hlevel : level ≤ 1000) :
    r ≤ compareOf r level ∧ compareOf r level ≤ 1024 :=
  ⟨(compareOf_zero r).symm.trans_le (compareOf_mono r level.zero_le), (compareOf_mono r hlevel).trans_eq (compareOf_full hr)⟩

theorem State.compare_range (s : State) {level : Nat} (h : level ≤ 1000) :
    s.reload ≤ s.compare level ∧ s.compare level ≤ 1024 :=
  compareOf_range (by rcases s.reload_cases with hr | hr <;> omega) h

/-- Settles O36: a compare is monotone in its level, from R at 0 to 1024 at 1000. -/
theorem compareOfALevelLiesWithinRAnd1024 : Obligations.CompareOfALevelLiesWithinRAnd1024 := by
  refine ⟨fun _ _ => rfl, fun _ _ => rfl, fun r level hr hlevel => ?_⟩
  have hle : r ≤ 1024 := by omega
  obtain ⟨hlow, hhigh⟩ := compareOf_range hle hlevel
  refine ⟨hlow, hhigh, fun lower hlower => compareOf_mono r hlower, compareOf_zero r, compareOf_full hle, ?_⟩
  rintro rfl
  exact congrArg (24 + ·) (Nat.mul_div_cancel _ (by decide))

/-- The stage starts at the compare of level 0 (R141). -/
theorem releaseReset_eq (pins : Straps) (s : State) :
    releaseReset pins s =
      (let r := if pins.getLsbD 4 then 524 else 24
      { s with
        phase := .oscillatorWait, straps := pins,
        light := { s.light with counter := r, buffered := r, active := r, drive := false } }) := by
  have hreload : ({ s with phase := .oscillatorWait, straps := pins } : State).reload = if pins.getLsbD 4 then 524 else 24 :=
    State.reload_eq _
  simp only [releaseReset, State.compare, compareOf_zero, hreload]
  rfl

/-- Settles O6: the release by the phase, the straps pin by pin. -/
theorem resetReleaseLatchesTheStraps : Obligations.ResetReleaseLatchesTheStraps := by
  refine ⟨fun pins s => ⟨fun hheld => ?_, fun hother => ?_⟩, fun s => ?_⟩
  · simp only [exec, execResetRelease, if_pos hheld, releaseReset_eq]
  · simp only [exec, execResetRelease, if_neg hother]
  · exact ⟨s.terminal_eq, strapField_two s.straps 8, s.depth_eq, s.gain_eq, s.reload_eq, s.holdTime_eq, s.occMode_eq⟩

/-! ### The fade and the output stage (R135 to R140) -/

/-- A level that does not change is not loaded. -/
theorem fadeStep_eq (s : State) :
    fadeStep s = s.withLight
      (let level := moveToward s.light.output s.light.target 10 2
      if level = s.light.output then s.light else { s.light with output := level, buffered := s.compare level }) := by
  unfold fadeStep
  dsimp only
  split
  · rfl
  · rfl

theorem exec_fadeTick {s : State} (h : s.light.fadeTick.isSome = true) :
    exec .fadeTick s =
      .next (let reloaded := s.withLight { s.light with fadeTick := some (milliseconds 25) }
        if s.round.phase = .chips then reloaded else fadeStep reloaded) := by
  simp only [exec, execFadeTick, onExpiry, if_pos h]

theorem stageRuns_of_live {s : State} (h : s.live = true) : s.stageRuns = true := by simp [State.stageRuns, h]

/-- Settles O35: in CHIPS or at the target the level stays, and the stage runs from the loaded compare. -/
theorem fadeStepsAndTheOutputStageFollowsThem : Obligations.FadeStepsAndTheOutputStageFollowsThem := by
  refine fun s => ⟨fun hruns => ?_, fun hlive => ⟨?_, fun hbelow => ?_, fun habove => ?_⟩⟩
  · rw [exec_fadeTick hruns]
    by_cases hchips : s.round.phase = .chips
    · simp only [hchips, true_or, if_true]
      rfl
    · simp only [hchips, false_or, fadeStep_eq]
      rfl
  · simp only [exec, execPwmReload, if_pos (stageRuns_of_live hlive)]
    rfl
  · simp only [exec, execCompareMatch, if_pos (And.intro (stageRuns_of_live hlive) hbelow)]
    rfl
  · simp only [exec, execCompareMatch]
    rw [if_neg fun h => absurd h.2 (Nat.not_lt.mpr habove)]

/-! ### Zone presence and the zone occupancy state (R126, R129, R131, R132) -/

/-- A lamp in an OCCUPIED zone, with this hold time (R131). -/
def Lighting.occupied (l : Lighting) (hold : Nat) : Lighting :=
  { l with
    occupancy := .occupied, holdTimer := some hold
    graceTimer := if l.occupancy = .occupied then l.graceTimer else none
    target := if l.occupancy = .occupied then l.target else l.task }

theorem zonePresence_eq (s : State) : zonePresence s = s.withLight (s.light.occupied s.holdTime) := by
  unfold zonePresence
  cases h : s.light.occupancy <;> simp [Lighting.occupied, h]

theorem exec_presence {s : State} (h : s.hears) {sender : Station} (h0 : sender ≠ 0) (zone : Station) :
    exec (.presence sender zone) s = .next (takePresence zone s.atNoticeEnd) :=
  congrArg Host.Outcome.next (receive_of_inRange (n := ⟨sender, .presence zone⟩) h rfl ⟨h0, rfl⟩)

theorem exec_holdTimerExpiry {s : State} (ho : s.light.occupancy = .occupied) (h : s.light.holdTimer.isSome = true) :
    exec .holdTimerExpiry s = .next (s.withLight { s.light with
      occupancy := .grace, holdTimer := none, graceTimer := some (seconds 120), target := s.light.task / 3 }) := by
  simp only [exec, execHoldTimerExpiry, onExpiry, if_pos ho, if_pos h]

theorem exec_graceTimerExpiry {s : State} (ho : s.light.occupancy = .grace) (h : s.light.graceTimer.isSome = true) :
    exec .graceTimerExpiry s =
      .next (s.withLight { s.light with occupancy := .vacant, graceTimer := none, target := 0 }) := by
  simp only [exec, execGraceTimerExpiry, onExpiry, if_pos ho, if_pos h]

theorem exec_presenceSpacingExpiry {s : State} (h : s.light.presenceSpacing.isSome = true) :
    exec .presenceSpacingExpiry s = .next (s.withLight { s.light with presenceSpacing := none }) := by
  simp only [exec, execPresenceSpacingExpiry, onExpiry, if_pos h]

/-! ### The queue does not read the lamp -/

theorem fixHead_withLight (x : Lighting) (s : State) : fixHead (s.withLight x) = (fixHead s).withLight x := by
  unfold fixHead
  rw [State.withLight_line]
  split
  · rw [apply_ite (State.withLight · x)]
    rfl
  · rfl

theorem enterOrDisplace_withLight (r : Request) (x : Lighting) (s : State) :
    enterOrDisplace r (s.withLight x) = (enterOrDisplace r s).withLight x := by
  have fixed (t : State) (l : LineInterface) : fixHead ((t.withLight x).withLine l) = (fixHead (t.withLine l)).withLight x :=
    fixHead_withLight x (t.withLine l)
  unfold enterOrDisplace
  rw [State.withLight_line]
  by_cases hroom : s.line.queue.length < 8
  · rw [if_pos hroom, if_pos hroom]
    exact fixed s _
  · rw [if_neg hroom, if_neg hroom]
    cases s.line.victim (rank r) with
    | some v => exact fixed (s.count fun c => { c with queueRefusals := bump c.queueRefusals }) _
    | none => rfl

theorem offer_withLight (r : Request) (x : Lighting) (s : State) : offer r (s.withLight x) = (offer r s).withLight x := by
  unfold offer
  simp only [State.withLight_line, State.withLight_phase, enterOrDisplace_withLight, apply_ite (State.withLight · x)]
  rfl

/-! ### A local presence (R126) -/

theorem presenceDue_iff (s : State) :
    s.presenceDue = true ↔ s.phase ≠ .listenOnly ∧ (s.light.occupancy ≠ .occupied ∨ s.light.presenceSpacing = none) := by
  simp [State.presenceDue, State.inListenOnly]

/-- The PRESENCE decision of a local presence taken (R126). -/
def State.presenceOffered (s : State) : State := if s.presenceDue then offer .presence s else s

theorem presenceOffered_withLight {s : State} {x : Lighting} (ho : x.occupancy = s.light.occupancy)
    (hp : x.presenceSpacing = s.light.presenceSpacing) : (s.withLight x).presenceOffered = s.presenceOffered.withLight x := by
  have hdue : (s.withLight x).presenceDue = s.presenceDue := by
    rw [Bool.eq_iff_iff, presenceDue_iff, presenceDue_iff, State.withLight_phase, State.withLight_light, ho, hp]
  rw [State.presenceOffered, State.presenceOffered, hdue, offer_withLight, apply_ite (State.withLight · x)]

theorem presenceOffered_holds (s : State) :
    s.presenceOffered.light = s.light ∧ s.presenceOffered.phase = s.phase ∧ s.presenceOffered.straps = s.straps ∧
      s.presenceOffered.round = s.round ∧ s.presenceOffered.climate = s.climate ∧
      s.presenceOffered.prescaler = s.prescaler := by
  unfold State.presenceOffered
  split
  · simp
  · simp

theorem State.holdTime_congr {s t : State} (h : t.straps = s.straps) : t.holdTime = s.holdTime := by
  rw [t.holdTime_eq, s.holdTime_eq, h]

/-- A local presence at a lamp `x` of the part: the offer does not change the lamp. -/
theorem localPresence_withLight {s : State} {x : Lighting} (ho : x.occupancy = s.light.occupancy)
    (hp : x.presenceSpacing = s.light.presenceSpacing) :
    localPresence (s.withLight x) = s.presenceOffered.withLight (x.occupied s.holdTime) := by
  have hlocal : localPresence (s.withLight x) = zonePresence (s.withLight x).presenceOffered := rfl
  have hhold : (s.presenceOffered.withLight x).holdTime = s.holdTime :=
    State.holdTime_congr (presenceOffered_holds s).2.2.1
  rw [hlocal, zonePresence_eq, presenceOffered_withLight ho hp, hhold]
  rfl

/-! ### The window of the level modes and the edges of pulse mode (R122 to R125) -/

/-- The lamp whose window has ended, with presence held or not (R123). -/
def Lighting.windowEnded (l : Lighting) (held : Bool) : Lighting :=
  { l with held := held, windowCount := 0, activeCount := 0 }

theorem endWindow_withLight {s : State} {x : Lighting} (ho : x.occupancy = s.light.occupancy)
    (hp : x.presenceSpacing = s.light.presenceSpacing) :
    endWindow (s.withLight x) =
      if 30 ≤ x.activeCount then s.presenceOffered.withLight ((x.occupied s.holdTime).windowEnded true)
      else s.withLight (x.windowEnded false) := by
  have hpresent : localPresence (s.withLight { x with held := true }) =
      s.presenceOffered.withLight (Lighting.occupied { x with held := true } s.holdTime) := localPresence_withLight ho hp
  refine if_congr Iff.rfl ?_ rfl
  exact congrArg (fun t : State => t.withLight { t.light with windowCount := 0, activeCount := 0 }) hpresent

/-- The lamp with one more sample in its window (R123). -/
def Lighting.counted (l : Lighting) (isActive : Bool) : Lighting :=
  { l with windowCount := l.windowCount + 1, activeCount := l.activeCount + isActive.toNat }

/-- At a lamp `x` of the part a sample below the 100th is counted; the 100th ends the window, with a local presence at 30
active samples or more. -/
theorem takeSample_withLight {s : State} {x : Lighting} (ho : x.occupancy = s.light.occupancy)
    (hp : x.presenceSpacing = s.light.presenceSpacing) (isActive : Bool) :
    takeSample isActive (s.withLight x) =
      if 100 ≤ x.windowCount + 1 then
        if 30 ≤ x.activeCount + isActive.toNat then
          s.presenceOffered.withLight (((x.counted isActive).occupied s.holdTime).windowEnded true)
        else s.withLight ((x.counted isActive).windowEnded false)
      else s.withLight (x.counted isActive) := by
  have hcounted : takeSample isActive (s.withLight x) =
      if 100 ≤ x.windowCount + 1 then endWindow (s.withLight (x.counted isActive)) else s.withLight (x.counted isActive) := by
    cases isActive <;> rfl
  rw [hcounted, endWindow_withLight (x := x.counted isActive) ho hp]
  rfl

/-- The lamp with its pin read, and the time to the next sample started (R122). -/
def Lighting.pinRead (l : Lighting) (pinHigh : Bool) (next : Timer) : Lighting := { l with pin := pinHigh, sampling := next }

/-- The lamp after a pulse-mode sample (R122). -/
def Lighting.pulsed (l : Lighting) (pinHigh : Bool) (next : Timer) : Lighting :=
  { l.pinRead pinHigh next with sampled := some pinHigh }

/-- The lamp after an accepted edge: presence held, and the lockout of 1 s (R124). -/
def Lighting.lockedOut (l : Lighting) : Lighting := { l with held := true, lockout := some (seconds 1) }

theorem takePulseSample_eq (pinHigh : Bool) (s : State) :
    takePulseSample pinHigh s =
      if s.light.sampled = some false ∧ pinHigh = true ∧ s.light.lockout = none then
        s.presenceOffered.withLight (((s.light.pulsed pinHigh s.samplePeriod).lockedOut).occupied s.holdTime)
      else s.withLight (s.light.pulsed pinHigh s.samplePeriod) := by
  rcases takePulseSample_cases pinHigh s with ⟨hlow, hhigh, hopen, h⟩ | ⟨hno, h⟩ <;> rw [h]
  · rw [if_pos ⟨hlow, hhigh, hopen⟩]
    exact localPresence_withLight (x := (s.light.pulsed pinHigh s.samplePeriod).lockedOut) rfl rfl
  · rw [if_neg hno]
    rfl

/-- A sample of the pin by the mode of ST-OCC: counted active by the mode's level, compared with the one before, or none. -/
theorem exec_occupancySample {s : State} (hlive : s.live = true) (pinHigh : Bool) :
    exec (.occupancySample pinHigh) s =
      .next
        (if s.occMode = 0 then takeSample pinHigh (readPin pinHigh s)
        else if s.occMode = 1 then takeSample (!pinHigh) (readPin pinHigh s)
        else if s.occMode = 2 then takePulseSample pinHigh s
        else s.withLight { s.light with pin := pinHigh }) := by
  simp only [exec, execOccupancySample, if_pos hlive]
  split <;> simp_all

theorem samplePeriod_of_level {s : State} (h : s.occMode ≤ 1) : s.samplePeriod = some (milliseconds 10) := by
  unfold State.samplePeriod
  have hmode : s.occMode = 0 ∨ s.occMode = 1 := by omega
  rcases hmode with h | h <;> rw [h] <;> rfl

theorem samplePeriod_of_pulse {s : State} (h : s.occMode = 2) : s.samplePeriod = some 1 := by
  rw [State.samplePeriod, h]
  rfl

/-- In a level mode a sample is active by the mode's level (R123). -/
theorem exec_occupancySample_level {s : State} (hlive : s.live = true) (hmode : s.occMode ≤ 1) (pinHigh : Bool) :
    exec (.occupancySample pinHigh) s =
      .next (takeSample (if s.occMode = 0 then pinHigh else !pinHigh)
        (s.withLight (s.light.pinRead pinHigh (some (milliseconds 10))))) := by
  have hread : readPin pinHigh s = s.withLight (s.light.pinRead pinHigh (some (milliseconds 10))) := by
    rw [readPin, samplePeriod_of_level hmode]
    rfl
  rw [exec_occupancySample hlive, hread]
  have hcases : s.occMode = 0 ∨ s.occMode = 1 := by omega
  rcases hcases with h | h <;> simp [h]

/-- RISING_EDGE is a low sample and a high one: the low one clears the way for the edge (R124, log entry 16). -/
theorem exec_risingEdge {s : State} (hlive : s.live = true) (hmode : s.occMode = 2) :
    exec .risingEdge s =
      .next (if s.light.lockout = none then
          s.presenceOffered.withLight (((s.light.pulsed true s.samplePeriod).lockedOut).occupied s.holdTime)
        else s.withLight (s.light.pulsed true s.samplePeriod)) := by
  have hlow : takePulseSample false s = s.withLight (s.light.pulsed false s.samplePeriod) := by
    rw [takePulseSample_eq, if_neg fun h => by cases h.2.1]
  have hoffered : (s.withLight (s.light.pulsed false s.samplePeriod)).presenceOffered =
      s.presenceOffered.withLight (s.light.pulsed false s.samplePeriod) := presenceOffered_withLight rfl rfl
  simp only [exec, execRisingEdge, if_pos (And.intro hlive hmode)]
  rw [hlow, takePulseSample_eq, hoffered]
  by_cases hopen : s.light.lockout = none
  · rw [if_pos ⟨rfl, rfl, hopen⟩, if_pos hopen]
    rfl
  · rw [if_neg fun h => hopen h.2.2, if_neg hopen]
    rfl

theorem exec_lockoutExpiry {s : State} (h : s.light.lockout.isSome = true) :
    exec .lockoutExpiry s = .next (s.withLight { s.light with lockout := none, held := false }) := by
  simp only [exec, execLockoutExpiry, onExpiry, if_pos h]

/-- Settles O34: by the mode, then by the place of the sample in its window, or by the edge and the lockout. -/
theorem localPresenceComesFromAWindowOrAnEdge : Obligations.LocalPresenceComesFromAWindowOrAnEdge := by
  intro s hlive offered present
  have hoffered : s.presenceOffered = offered := by
    simp only [State.presenceOffered, presenceDue_iff, offered]
  refine ⟨s.occMode_le, fun pinHigh hmode => ?_, fun pinHigh hmode => ?_, fun hmode => ?_, fun hmode => ?_,
    fun hmode pinHigh => ?_, fun hlocked => exec_lockoutExpiry hlocked⟩
  · intro isActive count
    rw [exec_occupancySample_level hlive hmode,
      takeSample_withLight (x := s.light.pinRead pinHigh (some (milliseconds 10))) rfl rfl, hoffered]
    refine ⟨fun hmore => congrArg _ (if_neg (Nat.not_le.mpr (Nat.succ_lt_succ hmore))), fun hlast hfew => congrArg _ ?_,
      fun hlast hmany => congrArg _ ?_⟩
    · exact (if_pos (Nat.succ_le_succ hlast.ge)).trans (if_neg (Nat.not_le.mpr hfew))
    · exact (if_pos (Nat.succ_le_succ hlast.ge)).trans (if_pos hmany)
  · have hpulse : exec (.occupancySample pinHigh) s = .next (takePulseSample pinHigh s) := by
      rw [exec_occupancySample hlive, hmode]
      rfl
    rw [hpulse, takePulseSample_eq, hoffered, samplePeriod_of_pulse hmode]
    refine congrArg _ (ite_congr rfl (fun hedge => ?_) fun _ => rfl)
    obtain ⟨-, rfl, -⟩ := hedge
    rfl
  · rw [exec_risingEdge hlive hmode, hoffered, samplePeriod_of_pulse hmode]
    rfl
  · simp only [exec, execRisingEdge]
    rw [if_neg fun h => hmode h.2]
  · rw [exec_occupancySample hlive, hmode]
    rfl

/-! ### The prescaler (00_scope.md, Time base) -/

/-- A command answers a state with the prescaler as it was. -/
def AnswersPrescaler (s : State) (r : Result) : Prop := ∃ t, r = .next t ∧ t.prescaler = s.prescaler

theorem AnswersPrescaler.of_next {s t : State} (h : t.prescaler = s.prescaler := by simp) : AnswersPrescaler s (.next t) :=
  ⟨t, rfl, h⟩

theorem AnswersPrescaler.onCondition {p : Prop} [Decidable p] {s t : State} (h : t.prescaler = s.prescaler := by simp) :
    AnswersPrescaler s (.next (if p then t else s)) := by
  refine .of_next ?_
  split
  · exact h
  · rfl

theorem onExpiry_prescaler {s : State} {timer : Timer} {effect : State → State}
    (h : (effect s).prescaler = s.prescaler := by simp) : (onExpiry timer effect s).prescaler = s.prescaler := by
  rcases onExpiry_cases timer effect s with ⟨-, e⟩ | ⟨-, e⟩ <;> rw [e]
  exact h

theorem AnswersPrescaler.onExpiry {s : State} {timer : Timer} {effect : State → State}
    (h : (effect s).prescaler = s.prescaler := by simp) : AnswersPrescaler s (.next (onExpiry timer effect s)) :=
  .of_next (onExpiry_prescaler h)

theorem readPages_prescaler (s : State) : (readPages s).prescaler = s.prescaler := by
  have hlink : ∀ (x : State) link, (restoreLink x link).prescaler = x.prescaler := by
    intro x link
    unfold restoreLink
    dsimp only
    split
    · rfl
    · split <;> simp
  rcases readPages_cases s with h | h <;> rw [h]
  · rfl
  · exact foldl_view State.prescaler restoreLink hlink _ _

theorem takePulseSample_prescaler (pinHigh : Bool) (s : State) : (takePulseSample pinHigh s).prescaler = s.prescaler := by
  rw [takePulseSample_eq]
  split
  · exact (presenceOffered_holds s).2.2.2.2.2
  · rfl

theorem takeSample_prescaler (isActive : Bool) (s : State) : (takeSample isActive s).prescaler = s.prescaler := by
  have h := takeSample_withLight (s := s) (x := s.light) rfl rfl isActive
  have hsame : s.withLight s.light = s := rfl
  rw [hsame] at h
  rw [h]
  split
  · split
    · exact (presenceOffered_holds s).2.2.2.2.2
    · rfl
  · rfl

theorem execOccupancySample_prescaler (pinHigh : Bool) (s : State) : AnswersPrescaler s (execOccupancySample pinHigh s) := by
  refine .of_next ?_
  split
  · split
    · exact takeSample_prescaler _ _
    · exact takeSample_prescaler _ _
    · exact takePulseSample_prescaler pinHigh s
    · rfl
  · rfl

theorem passGuard_prescaler (s : State) : (passGuard s).prescaler = s.prescaler := by
  unfold passGuard
  dsimp only
  split
  · simp
  · simp

theorem beginChips_prescaler (s : State) : (beginChips s).prescaler = s.prescaler := by
  unfold beginChips
  rcases startSense_cases _ with ⟨-, e⟩ | e <;> rw [e]
  · rfl
  · rfl

theorem closeRound_prescaler (s : State) : (closeRound s).prescaler = s.prescaler := by
  have heither : (eitherOrder deliverResults schedClose s).prescaler = s.prescaler :=
    eitherOrder_view State.prescaler _ _ (by simp) (by simp) (fun _ _ => rfl) s
  simpa [closeRound] using heither

theorem endTemperature_prescaler (b : Burst) (code : AdcCode) (s : State) :
    (endTemperature b code s).prescaler = s.prescaler := by
  unfold endTemperature
  dsimp only
  split
  · simp
  · simp

theorem giveUpTurn_prescaler (s : State) : (giveUpTurn s).prescaler = s.prescaler := by
  unfold giveUpTurn
  dsimp only
  split
  · simp
  · simp

/-- The prescaler counts crystal cycles: but for a reset no command moves it. -/
theorem exec_answersPrescaler {c : Instr} (hc : c ≠ .reset) (s : State) : AnswersPrescaler s (exec c s) := by
  cases c with
  | reset => exact absurd rfl hc
  | resetRelease pins => exact .onCondition rfl
  | oscillatorWaitEnd => exact .onCondition (readPages_prescaler s)
  | startOfListenOnly => exact .onCondition (by simp [startListening])
  | endOfListenOnly => exact .onCondition (by simp [release])
  | call | join | tally | stir | survey | claim | presence | warmth | ask | answer | set | forget => exact .of_next
  | discardedNotice raw => exact .of_next
  | guardStart => exact .onCondition (passGuard_prescaler s)
  | startOfChips => exact .onCondition (beginChips_prescaler s)
  | chipSignal chip => exact .onCondition (by simp [signalChip])
  | chipSample => exact .onCondition rfl
  | lightConversionEnd code => exact .onCondition (by simp [endLight])
  | startOfSettle => exact .onCondition (by rw [beginSettle_eq])
  | roundClose => exact .onCondition (closeRound_prescaler s)
  | temperatureConversionEnd code =>
    refine .of_next ?_
    split
    · split
      · exact endTemperature_prescaler _ code s
      · rfl
    · rfl
  | probeTimerExpiry => exact .onCondition (onExpiry_prescaler (by simp [becomeWanting]))
  | retryDelayExpiry => exact .onCondition onExpiry_prescaler
  | wantDeadlineExpiry => exact .onCondition (onExpiry_prescaler (giveUpTurn_prescaler s))
  | holdTimerExpiry | graceTimerExpiry | controlStep => exact .onCondition onExpiry_prescaler
  | headFixing | backoffResume | lineStartBit | framerFirstIdle | pwmReload | compareMatch => exact .onCondition
  | lineWin | loss | noticeCompletion =>
    refine .of_next ?_
    split
    · simp
    · rfl
  | sampleTimerExpiry | briskTimerExpiry | agingMinute | stirSpacingExpiry | ageSecond | generationTimerExpiry
  | claimSpacingExpiry | settleTimerExpiry | startUpHoldEnd | lockoutExpiry | presenceSpacingExpiry | readingHoldExpiry
  | rosterSecond | restTimerExpiry | linkHoldOffExpiry => exact .onExpiry
  | occupancySample pinHigh => exact execOccupancySample_prescaler pinHigh s
  | risingEdge => exact .onCondition ((takePulseSample_prescaler true _).trans (takePulseSample_prescaler false s))
  | fadeTick | warmthTimerExpiry =>
    refine .onExpiry ?_
    dsimp only
    split
    · simp
    · simp
  | saveCompletion | clearCompletion =>
    refine .of_next ?_
    split
    · simp
    · rfl

/-! ### The time before a zone presence of the hold expiry's instant (R132) -/

theorem reset_not_mem_due (s : State) : .reset ∉ s.due := by
  by_cases hr : s.stageRuns = true
  · simp [mem_due_iff hr, mem_dueTimers, mem_dueSlots, mem_dueLine, mem_dueStages]
  · simp [State.due, hr]

/-- The part's own events carry no notice. -/
theorem wellFormed_of_mem_due {s : State} (hr : s.stageRuns = true) {c : Instr} (h : c ∈ s.due) : c.wellFormed = true := by
  cases c with
  | tally | answer | discardedNotice =>
    simp [mem_due_iff hr, mem_dueTimers, mem_dueSlots, mem_dueLine, mem_dueStages] at h
  | _ => rfl

/-- A sample of the pin and the completion of a PRESENCE sent are due at their instant. -/
theorem due_ne_nil_of_presence {s : State} (hr : s.stageRuns = true)
    (h : s.light.sampling = some 0 ∨
      (s.line.queue ≠ [] ∧ (∃ units, s.line.level = .idle units ∧ 3 * byteTime ≤ units) ∧
        ∃ e a sender zone, s.line.contention = .fixed e a (.sending ⟨sender, .presence zone⟩ 0))) : s.due ≠ [] := by
  rcases h with hsample | ⟨hqueue, hidle, e, a, sender, zone, hsent⟩
  · refine List.ne_nil_of_mem (a := .occupancySample s.light.pin) ((mem_due_iff hr).mpr ⟨.inl ?_, by simp⟩)
    simp [mem_dueTimers, hsample]
  · exact List.ne_nil_of_mem
      ((noticeCompletion_mem_due hr).mpr ⟨hqueue, (idleFor_iff _ _).mpr hidle, e, a, _, hsent⟩)

/-- Of the events due then none is a fade step, so that the one taken leaves the output level and the time. -/
theorem step_of_graceForNoTime {s : State} (hr : s.stageRuns = true) (hpending : s.pending = [])
    (hgrace : s.graceForNoTime = true) (hdue : s.due ≠ []) :
    ∃ t, step s = .next t ∧ t.light.output = s.light.output ∧ t.prescaler = s.prescaler := by
  obtain ⟨-, -, -, htaken⟩ := step_unqueued hpending
  obtain ⟨c, hc, htaken⟩ := htaken hdue
  have hreset : c ≠ .reset := fun h => reset_not_mem_due s (h ▸ hc)
  obtain ⟨hfade, hsettle⟩ := due_of_graceForNoTime hgrace
  have hanswers (u : State) : ∃ t, exec c u = .next t ∧ t.light.output = u.light.output ∧ t.prescaler = u.prescaler := by
    obtain ⟨t, ht, hchanged⟩ := exec_changedBy (wellFormed_of_mem_due hr hc) u
    obtain ⟨t', ht', hprescaler⟩ := exec_answersPrescaler hreset u
    obtain rfl : t = t' := by simpa [ht] using ht'
    exact ⟨t, ht, hchanged.output hreset (fun h => hfade (h ▸ hc)) (fun h => hsettle (h ▸ hc)), hprescaler⟩
  rcases htaken with h | h <;> rw [h]
  · exact hanswers s
  · exact hanswers { s with free := s.free + 1 }

/-- Settles O33: each event by its equation, and the step before a zone presence by the events due. -/
theorem occupancyFollowsPresenceHoldAndGrace : Obligations.OccupancyFollowsPresenceHoldAndGrace := by
  refine fun s => ⟨?_, fun sender zone hhears h0 => exec_presence hhears h0 zone, fun ho => exec_holdTimerExpiry ho,
    fun ho => exec_graceTimerExpiry ho, fun hruns => exec_presenceSpacingExpiry hruns, ?_⟩
  · exact zonePresence_eq s
  · intro hlive hpending hgrace hfull hzero hhand
    have hr := stageRuns_of_live hlive
    have hwaits : s.graceForNoTime = true :=
      graceForNoTime_iff.mpr ⟨hgrace, hfull, hzero, hhand.imp_right And.right⟩
    obtain ⟨t, ht, houtput, hprescaler⟩ := step_of_graceForNoTime hr hpending hwaits (due_ne_nil_of_presence hr hhand)
    exact ⟨t, ht, houtput, hprescaler.trans hzero⟩

end Sys2Proof.Machine

/-! SUPPORT. The lamp and the climate sound, field by field, and what the operations of both make of them (R120 to R161). -/

namespace Sys2Proof.Machine

-- One thread, as above: a thread per theorem exceeds the memory limit of the check.
set_option Elab.async false

/-! ### The warmth roster (R149 to R153) -/

/-- An entry of the roster: a node's, of a temperature a reading can have, younger than 180 s. -/
structure RosterEntry.Fits (e : RosterEntry) : Prop where
  node : isNode e.station = true
  temperature : temperatureInRange e.temperature
  age : e.age ≤ 179

/-- 24 slots of fit entries, no station in two of them. -/
structure RosterSound (roster : List (Option RosterEntry)) : Prop where
  length : roster.length = 24
  entry : ∀ i e, slotAt roster i = some e → e.Fits
  distinct : ∀ i j e f, slotAt roster i = some e → slotAt roster j = some f → e.station = f.station → i = j

theorem rosterSound_iff (roster : List (Option RosterEntry)) :
    RosterSound roster ↔ roster.length = 24 ∧
      (∀ e ∈ entriesOf roster, isNode e.station = true ∧ temperatureInRange e.temperature ∧ e.age ≤ 179) ∧
      ((entriesOf roster).map (fun e => e.station)).Nodup := by
  rw [nodup_entries_iff]
  constructor
  · rintro ⟨hlen, hentry, hdistinct⟩
    refine ⟨hlen, fun e he => ?_, hdistinct⟩
    obtain ⟨i, hi⟩ := mem_entriesOf.mp he
    obtain ⟨hnode, htemperature, hage⟩ := hentry i e hi
    exact ⟨hnode, htemperature, hage⟩
  · rintro ⟨hlen, hentry, hdistinct⟩
    refine ⟨hlen, fun i e he => ?_, hdistinct⟩
    obtain ⟨hnode, htemperature, hage⟩ := hentry e (mem_entriesOf.mpr ⟨i, he⟩)
    exact ⟨hnode, htemperature, hage⟩

theorem entriesOf_replicate (n : Nat) : entriesOf (List.replicate n (none : Option RosterEntry)) = [] := by
  simp [entriesOf]

theorem slotAt_ageRoster (roster : List (Option RosterEntry)) (i : Nat) :
    slotAt (ageRoster roster) i =
      (slotAt roster i).bind (fun e => if 180 ≤ e.age + 1 then none else some { e with age := e.age + 1 }) := by
  simp only [slotAt, ageRoster, List.getElem?_map]
  cases roster[i]? <;> rfl

/-- An entry the roster second leaves is a second older and below 180 (R153). -/
theorem slot_of_ageRoster {roster : List (Option RosterEntry)} {i : Nat} {e : RosterEntry}
    (h : slotAt (ageRoster roster) i = some e) :
    ∃ f, slotAt roster i = some f ∧ f.age + 1 < 180 ∧ e = { f with age := f.age + 1 } := by
  rw [slotAt_ageRoster, Option.bind_eq_some_iff] at h
  obtain ⟨f, hf, he⟩ := h
  refine ⟨f, hf, ?_⟩
  split at he
  · cases he
  · rename_i hyoung
    exact ⟨by omega, (Option.some.inj he).symm⟩

/-- An empty roster has nothing to age. -/
theorem entriesOf_ageRoster {roster : List (Option RosterEntry)} (h : entriesOf roster = []) :
    entriesOf (ageRoster roster) = [] := by
  rw [List.eq_nil_iff_forall_not_mem] at h ⊢
  intro e he
  obtain ⟨i, hi⟩ := mem_entriesOf.mp he
  obtain ⟨f, hf, -⟩ := slot_of_ageRoster hi
  exact h f (mem_entriesOf.mpr ⟨i, hf⟩)

/-- A write takes the station's own slot or one whose entry gives way, so that no other slot holds the station (R151). -/
theorem writeRoster_slot {roster : List (Option RosterEntry)}
    (hdistinct : ∀ i j e f, slotAt roster i = some e → slotAt roster j = some f → e.station = f.station → i = j)
    (station : Station) (t : Int) :
    writeRoster station t roster = roster ∨
      ∃ i, writeRoster station t roster = roster.set i (some ⟨station, t, 0⟩) ∧
        ∀ j f, j ≠ i → slotAt roster j = some f → f.station ≠ station := by
  unfold writeRoster
  dsimp only
  split
  · rename_i i hfind
    obtain ⟨-, ⟨x, hx, hstation⟩, -⟩ := findSlot_some hfind
    refine .inr ⟨i, rfl, fun j f hj hf heq => hj (hdistinct j i f x hf hx ?_)⟩
    exact heq.trans (of_decide_eq_true hstation).symm
  · rename_i hfind
    have hnew : ∀ i j f, j ≠ i → slotAt roster j = some f → f.station ≠ station :=
      fun _ j f _ hf => of_decide_eq_false (findSlot_none hfind j f hf)
    split
    · exact .inr ⟨_, rfl, hnew _⟩
    · split
      · exact .inr ⟨_, rfl, hnew _⟩
      · exact .inl rfl

namespace RosterSound

variable {roster : List (Option RosterEntry)}

theorem empty : RosterSound (List.replicate 24 none) := by
  rw [rosterSound_iff, entriesOf_replicate]
  exact ⟨by simp, by simp, by simp⟩

/-- A station's temperature written (R151). -/
theorem written (h : RosterSound roster) {station : Station} (hnode : isNode station = true) {t : Int}
    (ht : temperatureInRange t) : RosterSound (writeRoster station t roster) := by
  obtain ⟨hlen, hentry, hdistinct⟩ := h
  rcases writeRoster_slot hdistinct station t with e | ⟨i, e, hnew⟩ <;> rw [e]
  · exact ⟨hlen, hentry, hdistinct⟩
  · by_cases hi : i < roster.length
    · refine ⟨by simpa using hlen, fun j f hf => ?_, fun j k f g hf hg hkey => ?_⟩
      · rw [slotAt_set _ _ _ _ hi] at hf
        split at hf
        · cases hf
          exact ⟨hnode, ht, Nat.zero_le _⟩
        · exact hentry j f hf
      · rw [slotAt_set _ _ _ _ hi] at hf hg
        split at hf <;> split at hg
        · rename_i hj hk
          exact hj.trans hk.symm
        · rename_i hk
          cases hf
          exact absurd hkey.symm (hnew k g hk hg)
        · rename_i hj _
          cases hg
          exact absurd hkey (hnew j f hj hf)
        · exact hdistinct j k f g hf hg hkey
    · rw [List.set_eq_of_length_le (Nat.le_of_not_lt hi)]
      exact ⟨hlen, hentry, hdistinct⟩

theorem aged (h : RosterSound roster) : RosterSound (ageRoster roster) := by
  obtain ⟨hlen, hentry, hdistinct⟩ := h
  refine ⟨by simpa [ageRoster] using hlen, fun i e he => ?_, fun i j e f he hf hkey => ?_⟩
  · obtain ⟨x, hx, hage, rfl⟩ := slot_of_ageRoster he
    obtain ⟨hnode, htemperature, -⟩ := hentry i x hx
    exact ⟨hnode, htemperature, by dsimp only; omega⟩
  · obtain ⟨x, hx, -, rfl⟩ := slot_of_ageRoster he
    obtain ⟨y, hy, -, rfl⟩ := slot_of_ageRoster hf
    exact hdistinct i j x y hx hy hkey

end RosterSound

/-! ### The mean and the demand (R157, R158) -/

theorem tdiv_le_of_le_mul {a b n : Int} (hn : 0 < n) (hb : 0 ≤ b) (h : a ≤ b * n) : a.tdiv n ≤ b := by
  rcases Int.le_total 0 a with ha | ha
  · rw [Int.tdiv_eq_ediv_of_nonneg ha]
    exact Int.ediv_le_of_le_mul hn h
  · have hneg := Int.tdiv_nonneg (Int.neg_nonneg.mpr ha) hn.le
    rw [Int.neg_tdiv] at hneg
    omega

/-- The mean of temperatures in range, rounded toward zero, is in range. -/
theorem meanOf_inRange {temperatures : List Int} (hne : temperatures ≠ [])
    (h : ∀ t ∈ temperatures, temperatureInRange t) : temperatureInRange (meanOf temperatures) := by
  have hcount : 0 < (temperatures.length : Int) := by
    exact_mod_cast List.length_pos_iff.mpr hne
  have hlow : temperatures.length • (-200 : Int) ≤ temperatures.sum :=
    List.card_nsmul_le_sum _ _ fun t ht => (h t ht).1
  have hhigh : temperatures.sum ≤ temperatures.length • (799 : Int) :=
    List.sum_le_card_nsmul _ _ fun t ht => (h t ht).2
  rw [nsmul_eq_mul] at hlow hhigh
  have hdown : (-temperatures.sum).tdiv temperatures.length ≤ 200 := tdiv_le_of_le_mul hcount (by decide) (by linarith)
  have hup : temperatures.sum.tdiv temperatures.length ≤ 799 := tdiv_le_of_le_mul hcount (by decide) (by linarith)
  rw [Int.neg_tdiv] at hdown
  exact ⟨by unfold meanOf; omega, hup⟩

theorem demandOf_le (e : Int) : demandOf e ≤ 255 := by
  unfold demandOf
  split
  · decide
  · split
    · decide
    · omega

/-- A move toward a goal stays below a bound of both. -/
theorem moveToward_le {value goal bound : Nat} (hvalue : value ≤ bound) (hgoal : goal ≤ bound) (up down : Nat) :
    moveToward value goal up down ≤ bound := by
  obtain ⟨-, -, hrise, hfall⟩ := moveToward_spec value goal up down
  rcases Nat.le_total value goal with h | h
  · exact (hrise h).2.trans hgoal
  · exact (hfall h).2.trans hvalue

/-! ### The lamp (R120 to R141) -/

theorem State.reload_congr {s t : State} (h : t.straps = s.straps) : t.reload = s.reload := by
  rw [t.reload_eq, s.reload_eq, h]

theorem State.occMode_congr {s t : State} (h : t.straps = s.straps) : t.occMode = s.occMode := by
  rw [t.occMode_eq, s.occMode_eq, h]

/-- The target is the task level, a third of it, or 0. -/
theorem targetOf_le (occupancy : Occupancy) (task : Nat) : targetOf occupancy task ≤ task := by
  cases occupancy with
  | vacant => exact Nat.zero_le _
  | occupied => exact Nat.le_refl _
  | grace => exact Nat.div_le_self _ _

/-- Where the pin is sampled it is so every 10 ms or every tick (R122). -/
theorem samplePeriod_spec (s : State) :
    (s.samplePeriod.isSome = true ↔ s.occMode ≠ 3) ∧ ∀ left ∈ s.samplePeriod, left ≤ milliseconds 10 := by
  have hmode : s.occMode = 0 ∨ s.occMode = 1 ∨ s.occMode = 2 ∨ s.occMode = 3 := by
    have hle := s.occMode_le
    omega
  unfold State.samplePeriod
  rcases hmode with h | h | h | h <;> simp [h, milliseconds]

/-- `x` is a sound lamp for the part in state `s`: its levels, its timers, its window, and its compares by the straps. -/
structure LampFits (s : State) (x : Lighting) : Prop where
  task : x.task ≤ 1000
  output : x.output ≤ 1000
  target : x.target = targetOf x.occupancy x.task
  hold : x.holdTimer.isSome = true ↔ x.occupancy = .occupied
  grace : x.graceTimer.isSome = true ↔ x.occupancy = .grace
  actives : x.activeCount ≤ x.windowCount
  window : x.windowCount < 100
  compares : s.phase ≠ .held → s.reload ≤ x.buffered ∧ x.buffered ≤ 1024 ∧ s.reload ≤ x.active ∧ x.active ≤ 1024
  dark : s.live = false → x.occupancy = .vacant ∧ x.sampling = none
  sampled : s.live = true → (x.sampling.isSome = true ↔ s.occMode ≠ 3)
  soon : ∀ left ∈ x.sampling, left ≤ milliseconds 10

/-- The levels of a chip override lie within the levels of the lamp (R24). -/
def OverrideFits (override : Option ChipLevels) : Prop := ∀ levels ∈ override, levels.high ≤ 1000 ∧ levels.low ≤ 1000

theorem lightSound_iff (s : State) : s.LightSound ↔ LampFits s s.light ∧ OverrideFits s.round.override := by
  constructor
  · rintro ⟨htask, houtput, htarget, hhold, hgrace, hactives, hwindow, hoverride, hcompares, hdark, hsampled, hsoon⟩
    exact ⟨⟨htask, houtput, htarget, hhold, hgrace, hactives, hwindow, hcompares, hdark, hsampled, hsoon⟩, hoverride⟩
  · rintro ⟨⟨htask, houtput, htarget, hhold, hgrace, hactives, hwindow, hcompares, hdark, hsampled, hsoon⟩, hoverride⟩
    exact ⟨htask, houtput, htarget, hhold, hgrace, hactives, hwindow, hoverride, hcompares, hdark, hsampled, hsoon⟩

namespace LampFits

variable {s t : State} {x : Lighting}

theorem congr (h : LampFits s x) (hphase : t.phase = s.phase) (hstraps : t.straps = s.straps) : LampFits t x := by
  have hlive := State.live_congr hphase
  refine { h with compares := ?_, dark := ?_, sampled := ?_ }
  · rw [hphase, State.reload_congr hstraps]
    exact h.compares
  · rw [hlive]
    exact h.dark
  · rw [hlive, State.occMode_congr hstraps]
    exact h.sampled

/-- From one phase of start-up to another, once the straps are latched. -/
theorem phased (h : LampFits s x) (hheld : s.phase ≠ .held) (hstraps : t.straps = s.straps)
    (hdark : t.live = false → x.occupancy = .vacant ∧ x.sampling = none)
    (hsampled : t.live = true → (x.sampling.isSome = true ↔ t.occMode ≠ 3)) : LampFits t x := by
  refine { h with compares := fun _ => ?_, dark := hdark, sampled := hsampled }
  rw [State.reload_congr hstraps]
  exact h.compares hheld

theorem target_le (h : LampFits s x) : x.target ≤ 1000 := by
  rw [h.target]
  exact (targetOf_le _ _).trans h.task

/-- A part that is not live is dark, so that what moves the occupancy is live. -/
theorem live_of_occupied (h : LampFits s x) (ho : x.occupancy ≠ .vacant) : s.live = true := by
  by_contra hdead
  exact ho (h.dark (by simpa using hdead)).1

/-- Zone presence in a live part (R131). -/
theorem occupied (h : LampFits s x) (hlive : s.live = true) (hold : Nat) : LampFits s (x.occupied hold) := by
  refine { h with
    target := ?_, hold := iff_of_true rfl rfl, grace := ?_, dark := fun hdead => by simp [hlive] at hdead }
  · have htarget := h.target
    change (if x.occupancy = .occupied then x.target else x.task) = x.task
    split
    · rename_i ho
      rw [htarget, ho]
      rfl
    · rfl
  · have hgrace := h.grace
    change Option.isSome (if x.occupancy = .occupied then x.graceTimer else none) = true ↔ Occupancy.occupied = .grace
    split
    · rename_i ho
      rw [hgrace, ho]
    · simp

/-- The hold timer expires: GRACE at a third of the task level (R131). -/
theorem graced (h : LampFits s x) (ho : x.occupancy = .occupied) (left : Nat) :
    LampFits s { x with occupancy := .grace, holdTimer := none, graceTimer := some left, target := x.task / 3 } :=
  { h with
    target := rfl, hold := by simp, grace := by simp,
    dark := fun hdead => by simp [h.live_of_occupied (by simp [ho])] at hdead }

/-- The grace timer expires: VACANT, dark (R131). -/
theorem vacated (h : LampFits s x) (ho : x.occupancy = .grace) :
    LampFits s { x with occupancy := .vacant, graceTimer := none, target := 0 } :=
  { h with
    target := rfl, hold := by simp [h.hold, ho], grace := by simp,
    dark := fun hdead => ⟨rfl, (h.dark hdead).2⟩ }

theorem tasked (h : LampFits s x) {task : Nat} (htask : task ≤ 1000) :
    LampFits s { x with task := task, target := targetOf x.occupancy task } :=
  { h with task := htask, target := rfl }

/-- A level loaded, whichever drives the stage (R139, R140). -/
theorem loaded (h : LampFits s x) {level : Nat} (hlevel : level ≤ 1000) :
    LampFits s { x with buffered := s.compare level } := by
  obtain ⟨hlow, hhigh⟩ := s.compare_range hlevel
  refine { h with compares := fun hp => ?_ }
  obtain ⟨-, -, hactive⟩ := h.compares hp
  exact ⟨hlow, hhigh, hactive⟩

theorem faded (h : LampFits s x) (up down : Nat) :
    LampFits s { x with
      output := moveToward x.output x.target up down, buffered := s.compare (moveToward x.output x.target up down) } := by
  have hlevel : moveToward x.output x.target up down ≤ 1000 := moveToward_le h.output h.target_le up down
  exact { h.loaded hlevel with output := hlevel }

/-- The buffered compare becomes active (R138). -/
theorem reloaded (h : LampFits s x) (counter : Nat) (drive : Bool) :
    LampFits s { x with counter := counter, active := x.buffered, drive := drive } := by
  refine { h with compares := fun hp => ?_ }
  obtain ⟨hlow, hhigh, -⟩ := h.compares hp
  exact ⟨hlow, hhigh, hlow, hhigh⟩

theorem counted (h : LampFits s x) (hmore : ¬ 100 ≤ x.windowCount + 1) (isActive : Bool) :
    LampFits s (x.counted isActive) := by
  have hactive := isActive.toNat_le
  have hactives := h.actives
  refine { h with actives := ?_, window := Nat.lt_of_not_le hmore }
  change x.activeCount + isActive.toNat ≤ x.windowCount + 1
  omega

theorem windowEnded (h : LampFits s x) (held : Bool) : LampFits s (x.windowEnded held) :=
  { h with actives := Nat.le_refl _, window := Nat.zero_lt_succ 99 }

/-- The pin read by a live part (R122). -/
theorem pinRead (h : LampFits s x) (hlive : s.live = true) (pinHigh : Bool) :
    LampFits s (x.pinRead pinHigh s.samplePeriod) := by
  obtain ⟨hmode, hsoon⟩ := samplePeriod_spec s
  exact { h with dark := fun hdead => by simp [hlive] at hdead, sampled := fun _ => hmode, soon := hsoon }

end LampFits

/-! ### The climate (R142 to R159) -/

/-- `x` is a sound Climate Unit for the part in state `s`. -/
structure ClimateFits (s : State) (x : Climate) : Prop where
  reading : ∀ t ∈ x.reading, temperatureInRange t
  hold : x.readingHold.isSome = x.reading.isSome
  setpoint_ge : 150 ≤ x.setpoint
  setpoint_le : x.setpoint ≤ 300
  setback : x.setback ≤ 60
  roster : RosterSound x.roster
  mean : ∀ t ∈ x.lastMean, temperatureInRange t
  damper : x.damper ≤ 255
  idle : s.terminal = false ∨ s.live = false →
    entriesOf x.roster = [] ∧ x.damper = 0 ∧ x.lastMean = none ∧ x.controlTimer = none
  sampling : s.live = false → x.sampleTimer = none

theorem climateSound_iff (s : State) : s.ClimateSound ↔ ClimateFits s s.climate := by
  constructor
  · rintro ⟨hreading, hhold, hge, hle, hback, hlen, hentry, hdistinct, hmean, hdamper, hidle, hsampling⟩
    exact ⟨hreading, hhold, hge, hle, hback, (rosterSound_iff _).mpr ⟨hlen, hentry, hdistinct⟩, hmean, hdamper, hidle,
      hsampling⟩
  · rintro ⟨hreading, hhold, hge, hle, hback, hroster, hmean, hdamper, hidle, hsampling⟩
    obtain ⟨hlen, hentry, hdistinct⟩ := (rosterSound_iff _).mp hroster
    exact ⟨hreading, hhold, hge, hle, hback, hlen, hentry, hdistinct, hmean, hdamper, hidle, hsampling⟩

theorem State.terminal_congr {s t : State} (h : t.straps = s.straps) : t.terminal = s.terminal := by
  rw [t.terminal_eq, s.terminal_eq, h]

namespace ClimateFits

variable {s t : State} {x : Climate}

theorem congr (h : ClimateFits s x) (hphase : t.phase = s.phase) (hstraps : t.straps = s.straps) : ClimateFits t x := by
  have hlive := State.live_congr hphase
  refine { h with idle := ?_, sampling := ?_ }
  · rw [hlive, State.terminal_congr hstraps]
    exact h.idle
  · rw [hlive]
    exact h.sampling

/-- A roster that a live terminal node has written or emptied. -/
theorem rostered (h : ClimateFits s x) {roster : List (Option RosterEntry)} (hroster : RosterSound roster)
    (hempty : s.terminal = false ∨ s.live = false → entriesOf roster = []) :
    ClimateFits s { x with roster := roster } :=
  { h with roster := hroster, idle := fun hi => ⟨hempty hi, (h.idle hi).2⟩ }

theorem written (h : ClimateFits s x) (hterminal : s.terminal = true) (hlive : s.live = true) {station : Station}
    (hnode : isNode station = true) {temperature : Int} (ht : temperatureInRange temperature) :
    ClimateFits s { x with roster := writeRoster station temperature x.roster } :=
  h.rostered (h.roster.written hnode ht) fun hi => by simp [hterminal, hlive] at hi

/-- A reading made, with its hold (R145, R146). -/
theorem read (h : ClimateFits s x) {temperature : Int} (ht : temperatureInRange temperature) (left : Nat) :
    ClimateFits s { x with reading := some temperature, readingHold := some left } :=
  { h with reading := fun _ hr => Option.some.inj hr ▸ ht, hold := rfl }

/-- The last mean and the damper after a control step of a live terminal node (R157, R159). -/
theorem controlled (h : ClimateFits s x) (hterminal : s.terminal = true) (hlive : s.live = true) {mean : Int}
    (hmean : temperatureInRange mean) (e : Int) :
    ClimateFits s { x with lastMean := some mean, damper := moveToward x.damper (demandOf e) 24 24 } :=
  { h with
    mean := fun _ hm => Option.some.inj hm ▸ hmean, damper := moveToward_le h.damper (demandOf_le e) 24 24,
    idle := fun hi => by simp [hterminal, hlive] at hi }

end ClimateFits

end Sys2Proof.Machine

/-! SUPPORT. Lamp and climate stay sound through start-up, notices, the Sense Unit's rounds and a cycle of the crystal. -/

namespace Sys2Proof.Machine

-- One thread, as above: a thread per theorem exceeds the memory limit of the check.
set_option Elab.async false

/-! ### Lamp and climate sound -/

/-- The lamp with its override and the climate are sound: what O58 claims of the state after a step. -/
structure State.ComfortSound (s : State) : Prop where
  lamp : LampFits s s.light
  override : OverrideFits s.round.override
  climate : ClimateFits s s.climate

theorem State.Sound.comfort {s : State} (h : s.Sound) : s.ComfortSound := by
  obtain ⟨hlamp, hoverride⟩ := (lightSound_iff s).mp h.light
  exact ⟨hlamp, hoverride, (climateSound_iff s).mp h.climate⟩

namespace State.ComfortSound

variable {s t : State}

theorem claims (h : s.ComfortSound) : s.LightSound ∧ s.ClimateSound :=
  ⟨(lightSound_iff s).mpr ⟨h.lamp, h.override⟩, (climateSound_iff s).mpr h.climate⟩

/-- Nothing has changed that the lamp and the climate rest on. Most operations of the part are of this kind. -/
theorem congr (h : s.ComfortSound)
    (hviews : t.phase = s.phase ∧ t.straps = s.straps ∧ t.round.override = s.round.override ∧ t.light = s.light ∧
      t.climate = s.climate := by simp) : t.ComfortSound := by
  obtain ⟨hphase, hstraps, hoverride, hlight, hclimate⟩ := hviews
  refine ⟨?_, ?_, ?_⟩
  · rw [hlight]
    exact h.lamp.congr hphase hstraps
  · rw [hoverride]
    exact h.override
  · rw [hclimate]
    exact h.climate.congr hphase hstraps

theorem withLight (h : s.ComfortSound) {x : Lighting} (hx : LampFits s x) : (s.withLight x).ComfortSound :=
  ⟨hx.congr rfl rfl, h.override, h.climate.congr rfl rfl⟩

theorem withClimate (h : s.ComfortSound) {x : Climate} (hx : ClimateFits s x) : (s.withClimate x).ComfortSound :=
  ⟨h.lamp.congr rfl rfl, h.override, hx.congr rfl rfl⟩

theorem withRound (h : s.ComfortSound) {x : RoundController} (hx : OverrideFits x.override) : (s.withRound x).ComfortSound :=
  ⟨h.lamp.congr rfl rfl, hx, h.climate.congr rfl rfl⟩

end State.ComfortSound

theorem ite_comfortSound {p : Prop} [Decidable p] {s t : State} (hs : s.ComfortSound) (h : p → t.ComfortSound) :
    (if p then t else s).ComfortSound := by
  split
  · rename_i hp; exact h hp
  · exact hs

theorem onExpiry_comfortSound {effect : State → State} {s : State} {timer : Timer} (hs : s.ComfortSound)
    (h : timer.isSome = true → (effect s).ComfortSound) : (onExpiry timer effect s).ComfortSound :=
  ite_comfortSound hs h

/-! ### The override through the view (R12 to R17, R24) -/

theorem markDisordered_override (s : State) : (markDisordered s).round.override = s.round.override := by
  rcases markDisordered_cases s with ⟨-, h⟩ | ⟨-, h⟩ <;> rw [h]
  simp

theorem takeCall_override (sender : Station) (depth : Nat) (s : State) :
    (takeCall sender depth s).round.override = s.round.override := by
  unfold takeCall
  cases s.round.phase with
  | none =>
    dsimp only
    split
    · simp
    · simp
  | opening => exact markDisordered_override s
  | chips => simp [markDisordered_override]
  | settle => rfl

theorem takeJoin_override (sender : Station) (depth position : Nat) (s : State) :
    (takeJoin sender depth position s).round.override = s.round.override := by
  rcases takeJoin_cases sender depth position s with ⟨-, h⟩ | ⟨-, h⟩ | ⟨-, -, joined, rfl, h⟩ <;> rw [h]
  · exact markDisordered_override s
  · split
    · simp
    · simp

/-! ### Presence and the pin (R122 to R131) -/

section Presence

variable {s : State} (h : s.ComfortSound) (hlive : s.live = true)
include h hlive

theorem zonePresence_comfortSound : (zonePresence s).ComfortSound := by
  rw [zonePresence_eq]
  exact h.withLight (h.lamp.occupied hlive _)

theorem takePresence_comfortSound (zone : Station) : (takePresence zone s).ComfortSound :=
  ite_comfortSound h fun _ => zonePresence_comfortSound h hlive

omit hlive in
/-- The offer of a local presence reaches the line alone. -/
theorem presenceOffered_comfortSound {x : Lighting} (hx : LampFits s x) : (s.presenceOffered.withLight x).ComfortSound := by
  obtain ⟨hlight, hphase, hstraps, hround, hclimate, -⟩ := presenceOffered_holds s
  have hoffered : s.presenceOffered.ComfortSound := h.congr ⟨hphase, hstraps, by rw [hround], hlight, hclimate⟩
  exact hoffered.withLight (hx.congr hphase hstraps)

/-- A sample of a level mode at a sound lamp of the part (R122, R123). -/
theorem takeSample_comfortSound {x : Lighting} (hx : LampFits s x) (ho : x.occupancy = s.light.occupancy)
    (hp : x.presenceSpacing = s.light.presenceSpacing) (isActive : Bool) :
    (takeSample isActive (s.withLight x)).ComfortSound := by
  rw [takeSample_withLight ho hp]
  split
  · split
    · exact presenceOffered_comfortSound h ((hx.occupied hlive s.holdTime).windowEnded true)
    · exact h.withLight (hx.windowEnded false)
  · rename_i hmore
    exact h.withLight (hx.counted hmore isActive)

theorem takePulseSample_comfortSound (pinHigh : Bool) : (takePulseSample pinHigh s).ComfortSound := by
  have hread := h.lamp.pinRead hlive pinHigh
  have hpulsed : LampFits s (s.light.pulsed pinHigh s.samplePeriod) := { hread with }
  have hlocked : LampFits s (s.light.pulsed pinHigh s.samplePeriod).lockedOut := { hpulsed with }
  rw [takePulseSample_eq]
  split
  · exact presenceOffered_comfortSound h (hlocked.occupied hlive s.holdTime)
  · exact h.withLight hpulsed

end Presence

/-! ### Levels loaded (R134 to R140) -/

section Levels

variable {s : State} (h : s.ComfortSound)
include h

theorem setTask_comfortSound {task : Nat} (htask : task ≤ 1000) : (setTask task s).ComfortSound := by
  unfold setTask
  split
  · exact h
  · exact h.withLight (h.lamp.tasked htask)

theorem fadeStep_comfortSound : (fadeStep s).ComfortSound := by
  rcases fadeStep_cases s with ⟨-, e⟩ | e <;> rw [e]
  · exact h
  · exact h.withLight (h.lamp.faded 10 2)

/-- The level of a chip is one of the override's (R25). -/
theorem loadChip_comfortSound (j : Nat) : (loadChip j s).ComfortSound := by
  have hoverride := h.override
  unfold loadChip
  split
  · rename_i levels position hlevels _
    obtain ⟨hhigh, hlow⟩ := hoverride levels hlevels
    refine h.withLight (h.lamp.loaded ?_)
    split
    · exact hhigh
    · exact hlow
  · exact h

/-! ### Readings, the roster and the operating values (R145 to R159, R198) -/

theorem setItem_comfortSound (item : Nat) (value : Int) : (setItem item value s).ComfortSound := by
  unfold setItem
  split
  · obtain ⟨hlow, hhigh, -⟩ := clampInt_spec (low := 0) (high := 1000) (by decide) value
    exact setTask_comfortSound h (by omega)
  · obtain ⟨hlow, hhigh, -⟩ := clampInt_spec (low := 150) (high := 300) (by decide) value
    exact h.withClimate { h.climate with setpoint_ge := hlow, setpoint_le := hhigh }
  · obtain ⟨hlow, hhigh, -⟩ := clampInt_spec (low := 0) (high := 60) (by decide) value
    exact h.withClimate { h.climate with setback := by dsimp only; omega }
  · exact h

theorem takeWarmth_comfortSound (hlive : s.live = true) {sender : Station} (h0 : sender ≠ 0) (zone : Station) (t : Int) :
    (takeWarmth sender zone t s).ComfortSound := by
  refine ite_comfortSound h fun htaken => ?_
  simp only [Bool.and_eq_true, Bool.not_eq_true', decide_eq_true_eq] at htaken
  obtain ⟨⟨⟨⟨hterminal, htool⟩, hlow⟩, hhigh⟩, -⟩ := htaken
  exact h.withClimate (h.climate.written hterminal hlive (isNode_of_not_isTool h0 htool) ⟨hlow, hhigh⟩)

/-- Eight codes reach the unit of a live part (R145, R152). -/
theorem takeBurst_comfortSound (hlive : s.live = true) (hid : s.NodeIdentity) {codes : List AdcCode}
    (hcodes : codes.length = 8) : (takeBurst codes s).ComfortSound := by
  have ht := temperatureOf_inRange s.memory.nv.trim hcodes
  have hread := h.climate.read ht (seconds 180)
  unfold takeBurst
  split
  · dsimp only
    split
    · rename_i hterminal
      exact (h.withClimate hread).withClimate ((hread.written hterminal hlive hid ht).congr rfl rfl)
    · exact h.withClimate hread
  · exact h

theorem emptyRoster_comfortSound : (emptyRoster s).ComfortSound :=
  ite_comfortSound h fun _ => h.withClimate (h.climate.rostered .empty fun _ => entriesOf_replicate 24)

theorem zoneChange_comfortSound (root : Station) (save : Bool) : (zoneChange root save s).ComfortSound := by
  obtain ⟨lit, hlit, e⟩ := zoneChange_cases root save s
  have hemptied : (emptyRoster lit).ComfortSound := by
    rcases hlit with rfl | rfl
    · exact emptyRoster_comfortSound h.congr
    · exact emptyRoster_comfortSound h.congr
  rw [e]
  split
  · exact hemptied.congr
  · exact hemptied

theorem controlLaw_comfortSound (hterminal : s.terminal = true) (hlive : s.live = true) : (controlLaw s).ComfortSound := by
  have hroster := h.climate.roster
  unfold controlLaw
  split
  · exact h
  · rename_i hsome
    refine h.withClimate (h.climate.controlled hterminal hlive (meanOf_inRange (by simpa using hsome) ?_) _)
    simp only [List.mem_map]
    rintro _ ⟨e, he, rfl⟩
    obtain ⟨i, hi⟩ := mem_entriesOf.mp he
    exact (hroster.entry i e hi).temperature

/-! ### Notices (R166, R168) -/

theorem forgetZone_comfortSound : (forgetZone s).ComfortSound := by
  rcases forgetZone_cases s with ⟨-, e⟩ | ⟨-, e⟩ <;> rw [e]
  · exact h.congr
  · exact zoneChange_comfortSound h.congr _ _

theorem takeForget_comfortSound (target : Station) : (takeForget target s).ComfortSound := by
  unfold takeForget
  split
  · exact anyOrder_keeps (P := State.ComfortSound) (fun x hx => hx.congr) (fun x hx => forgetZone_comfortSound hx)
      (fun x hx => hx.congr) (fun x n hx => hx.congr) h.congr
  · exact h

theorem deliver_comfortSound (hlive : s.live = true) {n : Notice} (hn : Notice.InRange n) : (deliver n s).ComfortSound := by
  obtain ⟨sender, body⟩ := n
  obtain ⟨h0, -⟩ := hn
  cases body with
  | call d => exact h.congr (t := takeCall sender d.toNat s) (by simp [takeCall_override])
  | join d p => exact h.congr (t := takeJoin sender d.toNat p.toNat s) (by simp [takeJoin_override])
  | tally items => exact h.congr (t := takeTally sender items s)
  | stir cause => exact h.congr (t := takeStir sender s)
  | survey minutes => exact h.congr (t := takeSurvey minutes s)
  | claim root hops generation values => exact h.congr (t := takeClaim sender ⟨root, hops.toNat, generation⟩ values s)
  | presence zone => exact takePresence_comfortSound h hlive zone
  | warmth zone temperature => exact takeWarmth_comfortSound h hlive h0 zone temperature.toInt
  | ask target page => exact h.congr (t := takeAsk target page s)
  | answer page content => exact h
  | set target item value =>
    refine ite_comfortSound (t := saveRequest (setItem item.toNat value.toInt s)) h fun _ => ?_
    exact (setItem_comfortSound h item.toNat value.toInt).congr
  | forget target => exact takeForget_comfortSound h target

theorem applyVerdict_comfortSound (hlive : s.live = true) {v : Verdict} (hv : ∀ n, v = .passes n → Notice.InRange n) :
    (applyVerdict v s).ComfortSound := by
  rcases applyVerdict_cases v s with ⟨-, e⟩ | ⟨-, e⟩ | ⟨n, hn, e⟩ <;> rw [e]
  · exact h.congr
  · exact h
  · exact deliver_comfortSound h hlive (hv n hn)

theorem receive_comfortSound (n : Notice) : (receive n s).ComfortSound := by
  rcases receive_cases n s with ⟨-, e⟩ | ⟨hf, e⟩ <;> rw [e]
  · exact h
  · exact applyVerdict_comfortSound h.congr ((lineIdleThree_probingKept s).live.trans (live_of_framing hf))
      fun _ => judgeNotice_passes

theorem receiveBytes_comfortSound (raw : Collected) : (receiveBytes raw s).ComfortSound := by
  rcases receiveBytes_cases raw s with ⟨-, -, e⟩ | ⟨-, -, -, e⟩ | ⟨hf, e⟩ <;> rw [e]
  · exact h
  · exact h.congr
  · exact applyVerdict_comfortSound h.congr ((lineIdleThree_probingKept s).live.trans (live_of_framing hf))
      fun _ => judge_passes

/-- A PRESENCE completed starts its spacing timer (R127). -/
theorem reportCompletion_comfortSound (n : Notice) : (reportCompletion n s).ComfortSound := by
  have hlamp := h.lamp
  unfold reportCompletion
  split
  · exact h.congr
  · exact h.withLight { hlamp with }
  · exact h

/-- What is looped back is in range, and the part that sent it is live. -/
theorem completeNotice_comfortSound (hlive : s.live = true) {n : Notice} (hn : Notice.InRange n) (r : Request) :
    (completeNotice n r s).ComfortSound := by
  have told (l : LineInterface) : (reportCompletion n (s.withLine l)).ComfortSound :=
    reportCompletion_comfortSound h.congr n
  unfold completeNotice
  dsimp only
  split
  · exact deliver_comfortSound (told _) ((State.live_congr (by simp)).trans hlive) hn
  · exact told _

end Levels

/-! ### Start-up (R141, R185, R195) -/

/-- The reset values, at any station (R120, R142). -/
theorem afterReset_comfortSound (s : State) : (afterReset s).ComfortSound := by
  obtain ⟨hlamp, hoverride⟩ := (lightSound_iff State.reset).mp resetStateIsSound.light
  have hpinned : LampFits State.reset (afterReset s).light := { hlamp with }
  exact ⟨hpinned.congr rfl rfl, hoverride, ((climateSound_iff _).mp resetStateIsSound.climate).congr rfl rfl⟩

/-- New straps at a part still held: the stage starts at R, and neither lamp nor climate runs. -/
theorem releaseReset_comfortSound {s : State} (h : s.ComfortSound) (hp : s.phase = .held) (pins : Straps) :
    (releaseReset pins s).ComfortSound := by
  have hdead : s.live = false := by simp [State.live, hp]
  have hlow : (releaseReset pins s).live = false := rfl
  have hR : (releaseReset pins s).reload ≤ 1024 := by
    rcases (releaseReset pins s).reload_cases with hr | hr <;> omega
  have hstarted : (releaseReset pins s).light.buffered = (releaseReset pins s).reload ∧
      (releaseReset pins s).light.active = (releaseReset pins s).reload := ⟨compareOf_zero _, compareOf_zero _⟩
  refine ⟨{ h.lamp with
    compares := fun _ => ?_, dark := fun _ => h.lamp.dark hdead, sampled := fun hl => ?_ }, h.override,
    { h.climate with idle := fun _ => h.climate.idle (.inr hdead), sampling := fun _ => h.climate.sampling hdead }⟩
  · rw [hstarted.1, hstarted.2]
    exact ⟨Nat.le_refl _, hR, Nat.le_refl _, hR⟩
  · cases hl

/-- Start-up goes from one phase to another before listen-only. -/
theorem State.ComfortSound.enters {s : State} (h : s.ComfortSound) {p : StartPhase} (hs : s.live = false)
    (hp : s.phase ≠ .held) (hdead : ({ s with phase := p } : State).live = false) :
    ({ s with phase := p } : State).ComfortSound :=
  ⟨h.lamp.phased hp rfl (fun _ => h.lamp.dark hs) fun hl => (by simp [hdead] at hl), h.override,
    { h.climate with
      idle := fun _ => h.climate.idle (.inr hs)
      sampling := fun _ => h.climate.sampling hs }⟩

/-- The operating values of a good record are clamped, and the zone is VACANT (R185). -/
theorem recordValuesTaken_comfortSound {s : State} (h : s.ComfortSound) (hdead : s.live = false) :
    s.recordValuesTaken.ComfortSound := by
  have hvacant := (h.lamp.dark hdead).1
  have hlamp : LampFits s { s.light with task := min 1000 s.memory.nv.recordTask } := by
    refine { h.lamp with task := Nat.min_le_left _ _, target := ?_ }
    have htarget := h.lamp.target
    rw [hvacant] at htarget ⊢
    exact htarget
  have hclimate : ClimateFits s { s.climate with
      setpoint := max 150 (min 300 s.memory.nv.recordSetpoint), setback := min 60 s.memory.nv.recordSetback } :=
    { h.climate with
      setpoint_ge := Int.le_max_left _ _, setpoint_le := max_le (by decide) (Int.min_le_left _ _),
      setback := Nat.min_le_left _ _ }
  exact ⟨hlamp.congr rfl rfl, h.override, hclimate.congr rfl rfl⟩

theorem restoreLink_comfortSound {s : State} (h : s.ComfortSound) (link : Station × Half) :
    (restoreLink s link).ComfortSound := by
  unfold restoreLink
  dsimp only
  split
  · exact h
  · split
    · exact h.congr
    · exact h

theorem readPages_comfortSound {s : State} (h : s.ComfortSound) (hp : s.phase = .oscillatorWait) :
    (readPages s).ComfortSound := by
  have hdead : s.live = false := by simp [State.live, hp]
  have hentered := h.enters (p := .restored) hdead (by simp [hp]) rfl
  have hstarted : s.holdStarted.ComfortSound := hentered.congr ⟨rfl, rfl, rfl, rfl, rfl⟩
  rcases readPages_cases s with e | e <;> rw [e]
  · exact hstarted
  · exact foldl_keeps (P := State.ComfortSound) (fun _ link hx => restoreLink_comfortSound hx link) _
      (recordValuesTaken_comfortSound hstarted rfl)

theorem startListening_holds (s : State) :
    (startListening s).phase = .listenOnly ∧ (startListening s).straps = s.straps ∧ (startListening s).round = s.round ∧
      (startListening s).light = { s.light with
        sampled := if s.occMode = 2 then some s.light.pin else none, sampling := s.samplePeriod,
        fadeTick := some (milliseconds 25) } ∧
      (startListening s).climate = { s.climate with
        sampleTimer := some (seconds 10), rosterSecond := some (seconds 1),
        controlTimer := if s.terminal then some (seconds 60) else none } := by
  simp [startListening]

/-- Listen-only starts the sampling of the pin, and the control timer of a terminal node (R122, R157, R195). -/
theorem startListening_comfortSound {s : State} (h : s.ComfortSound) (hp : s.phase = .restored) :
    (startListening s).ComfortSound := by
  have hdead : s.live = false := by simp [State.live, hp]
  have hlamp := h.lamp
  have hclimate := h.climate
  obtain ⟨hphase, hstraps, hround, hlight, hunit⟩ := startListening_holds s
  obtain ⟨hmode, hsoon⟩ := samplePeriod_spec s
  have hlive : (startListening s).live = true := by simp [State.live, hphase]
  refine ⟨?_, hround ▸ h.override, ?_⟩
  · rw [hlight]
    refine { hlamp with
      compares := fun _ => ?_, dark := fun hl => by simp [hlive] at hl, sampled := fun _ => ?_, soon := hsoon }
    · rw [State.reload_congr hstraps]
      exact hlamp.compares (by simp [hp])
    · rw [State.occMode_congr hstraps]
      exact hmode
  · rw [hunit]
    refine { hclimate with idle := fun hi => ?_, sampling := fun hl => by simp [hlive] at hl }
    obtain ⟨hroster, hdamper, hmean, -⟩ := hclimate.idle (.inr hdead)
    refine ⟨hroster, hdamper, hmean, ?_⟩
    rw [hlive, State.terminal_congr hstraps] at hi
    simpa using hi

theorem release_holds (s : State) :
    (release s).phase = .running ∧ (release s).straps = s.straps ∧ (release s).round = s.round ∧
      (release s).light = s.light ∧ (release s).climate = { s.climate with warmthTimer := some (seconds 60) } := by
  simp [release]

/-- Step 5 of start-up goes on live, and starts the WARMTH timer (R143). -/
theorem release_comfortSound {s : State} (h : s.ComfortSound) (hp : s.phase = .listenOnly) : (release s).ComfortSound := by
  have hwas : s.live = true := by simp [State.live, hp]
  have hlamp := h.lamp
  have hclimate := h.climate
  obtain ⟨hphase, hstraps, hround, hlight, hunit⟩ := release_holds s
  have hlive : (release s).live = s.live := by simp [State.live, hphase, hp]
  refine ⟨?_, hround ▸ h.override, ?_⟩
  · rw [hlight]
    refine hlamp.phased (by simp [hp]) hstraps (fun hl => hlamp.dark (hlive ▸ hl)) fun _ => ?_
    rw [State.occMode_congr hstraps]
    exact hlamp.sampled hwas
  · rw [hunit]
    refine { hclimate with idle := fun hi => hclimate.idle ?_, sampling := fun hl => hclimate.sampling (hlive ▸ hl) }
    rwa [State.terminal_congr hstraps, hlive] at hi

/-! ### The round (R9, R24, R25) -/

theorem passGuard_comfortSound {s : State} (h : s.ComfortSound) : (passGuard s).ComfortSound := by
  unfold passGuard
  dsimp only
  split
  · exact h.congr
  · exact h.congr

/-- The chip levels lie a depth of at most 80 from the output level, below it where the depth allows (R24). -/
theorem chipLevels_fit {base : Nat} (h : base ≤ 1000) (s : State) : OverrideFits (some (chipLevels base s.depth)) := by
  have hdepth : s.depth ≤ 80 := by
    have hhigh := (s.straps.getLsbD 7).toNat_le
    have hlow := (s.straps.getLsbD 6).toNat_le
    rw [s.depth_eq]
    omega
  rintro _ ⟨⟩
  unfold chipLevels
  split
  · exact ⟨h, (Nat.sub_le _ _).trans h⟩
  · dsimp only
    omega

theorem startSense_comfortSound {s : State} (h : s.ComfortSound) : (startSense s).ComfortSound := by
  rcases startSense_cases s with ⟨-, e⟩ | e <;> rw [e]
  · exact h.congr
  · exact h

theorem beginChips_comfortSound {s : State} (h : s.ComfortSound) : (beginChips s).ComfortSound := by
  have hlevels : OverrideFits (if s.round.own.isSome then some (chipLevels s.light.output s.depth) else none) := by
    split
    · exact chipLevels_fit h.lamp.output s
    · exact fun _ hnone => by cases hnone
  unfold beginChips
  exact startSense_comfortSound (h.withRound hlevels)

theorem signalChip_comfortSound {s : State} (h : s.ComfortSound) (j : Nat) : (signalChip j s).ComfortSound :=
  loadChip_comfortSound h.congr j

theorem startLight_comfortSound {s : State} (h : s.ComfortSound) : (startLight s).ComfortSound := by
  unfold startLight
  exact h.congr

theorem endLight_comfortSound {s : State} (h : s.ComfortSound) (code : AdcCode) : (endLight code s).ComfortSound := by
  unfold endLight
  exact h.congr

theorem beginSettle_comfortSound {s : State} (h : s.ComfortSound) : (beginSettle s).ComfortSound := by
  rw [beginSettle_eq]
  exact ⟨(h.lamp.faded 10 2).congr rfl rfl, fun _ hnone => (by cases hnone), h.climate.congr rfl rfl⟩

theorem closeRound_comfortSound {s : State} (h : s.ComfortSound) : (closeRound s).ComfortSound := by
  have hresults {x : State} (hx : x.ComfortSound) : (deliverResults x).ComfortSound := hx.congr
  have hclose {x : State} (hx : x.ComfortSound) : (schedClose x).ComfortSound := hx.congr
  have hended {x : State} (hx : x.ComfortSound) : (closeView x).ComfortSound :=
    hx.withRound fun _ hnone => by cases hnone
  obtain ⟨a, ha, e⟩ := eitherOrder_cases deliverResults schedClose s
  have hboth : a.ComfortSound := by
    rcases ha with rfl | rfl
    · exact hclose (hresults h)
    · exact hresults (hclose h)
  unfold closeRound
  rcases e with e | e <;> rw [e]
  · exact hended hboth
  · exact hended hboth.congr

/-- The eighth code of a burst hands a reading over; a burst runs in a live part alone. -/
theorem endTemperature_comfortSound {s : State} (h : s.ComfortSound) (hs : s.Sound) {b : Burst}
    (hb : s.sense.burst = some b) (code : AdcCode) : (endTemperature b code s).ComfortSound := by
  obtain ⟨-, hfew, -, -, hdead⟩ := hs.sense
  have hlive : s.live = true := by
    by_contra hl
    simp [hdead (by simpa using hl)] at hb
  have hlen := hfew b hb
  unfold endTemperature
  dsimp only
  split
  · exact h.congr
  · rename_i hfull
    rw [List.length_append, List.length_singleton] at hfull
    refine takeBurst_comfortSound (s := s.withSense { s.sense with burst := none }) h.congr hlive hs.identity ?_
    rw [List.length_append, List.length_singleton]
    omega

/-! ### One crystal cycle -/

theorem Timer.tick_le {t : Timer} {bound : Nat} (h : ∀ left ∈ t, left ≤ bound) : ∀ left ∈ t.tick, left ≤ bound := by
  cases t with
  | none => exact h
  | some n =>
    rintro _ ⟨⟩
    exact (Nat.sub_le n 1).trans (h n rfl)

/-- A free-running tick starts and stops no timer. -/
theorem freeTick_comfortSound {s : State} (h : s.ComfortSound) : (freeTick s).ComfortSound := by
  have hticks (t : Timer) : Option.isSome (Timer.tick t) = t.isSome := Timer.tick_isSome t
  have hnone {t : Timer} (ht : t = none) : Timer.tick t = none := by rw [ht]; rfl
  have hlamp := h.lamp
  have hclimate := h.climate
  unfold freeTick
  dsimp only
  split
  · refine ⟨{ hlamp with
        hold := ?_, grace := ?_, dark := ?_, sampled := ?_, soon := Timer.tick_le hlamp.soon }, h.override,
      { hclimate with hold := ?_, idle := ?_, sampling := ?_ }⟩
    · exact hticks s.light.holdTimer ▸ hlamp.hold
    · exact hticks s.light.graceTimer ▸ hlamp.grace
    · exact fun hl => ⟨(hlamp.dark hl).1, hnone (hlamp.dark hl).2⟩
    · exact fun hl => hticks s.light.sampling ▸ hlamp.sampled hl
    · exact (hticks s.climate.readingHold).trans hclimate.hold
    · intro hi
      obtain ⟨hroster, hdamper, hmean, hcontrol⟩ := hclimate.idle hi
      exact ⟨hroster, hdamper, hmean, hnone hcontrol⟩
    · exact fun hl => hnone (hclimate.sampling hl)
  · exact h.congr ⟨rfl, rfl, rfl, rfl, rfl⟩

theorem crystalCycle_comfortSound {s : State} (h : s.ComfortSound) : (crystalCycle s).ComfortSound := by
  have hcycled : (s.withLight { s.light with counter := s.light.counter + 1 }).ComfortSound := by
    have hlamp := h.lamp
    exact h.withLight { hlamp with }
  unfold crystalCycle
  dsimp only
  split
  · exact hcycled.congr ⟨rfl, rfl, rfl, rfl, rfl⟩
  · exact freeTick_comfortSound (hcycled.congr ⟨rfl, rfl, rfl, rfl, rfl⟩)

end Sys2Proof.Machine

/-! SUPPORT. Lamp and climate stay sound through every command and so through every step (R120, R142, R149, R159). -/

namespace Sys2Proof.Machine

-- One thread, as above: a thread per theorem exceeds the memory limit of the check.
set_option Elab.async false

/-! ### The commands -/

/-- A command answers a state in which the lamp and the climate are sound. -/
def AnswersComfort (r : Result) : Prop := ∃ t, r = .next t ∧ t.ComfortSound

theorem State.ComfortSound.answers {t : State} (h : t.ComfortSound) : AnswersComfort (.next t) := ⟨t, rfl, h⟩

/-- A command that its state does not fit changes nothing. -/
theorem State.ComfortSound.answersIf {p : Prop} [Decidable p] {s t : State} (hs : s.ComfortSound)
    (h : p → t.ComfortSound) : AnswersComfort (.next (if p then t else s)) := (ite_comfortSound hs h).answers

/-- Nor does the expiry of a stopped timer. -/
theorem State.ComfortSound.answersExpiry {s : State} (hs : s.ComfortSound) {timer : Timer} {effect : State → State}
    (h : timer.isSome = true → (effect s).ComfortSound) : AnswersComfort (.next (onExpiry timer effect s)) :=
  (onExpiry_comfortSound hs h).answers

section Commands

variable {s : State} (h : s.ComfortSound)
include h

/-- The lamp with what no claim reads changed: its pin, its samples, its lockout, its counter, and the timers of the fade and
of PRESENCE. -/
theorem State.ComfortSound.withMarks (pin : Bool) (sampled : Option Bool) (held : Bool) (lockout spacing fade : Timer)
    (counter : Nat) (drive : Bool) :
    (s.withLight { s.light with
      pin := pin, sampled := sampled, held := held, lockout := lockout, presenceSpacing := spacing, fadeTick := fade,
      counter := counter, drive := drive }).ComfortSound := by
  have hlamp := h.lamp
  exact h.withLight { hlamp with }

theorem execOccupancySample_comfort (pinHigh : Bool) : AnswersComfort (execOccupancySample pinHigh s) := by
  have hpin : (s.withLight { s.light with pin := pinHigh }).ComfortSound := h.withMarks _ _ _ _ _ _ _ _
  refine State.ComfortSound.answers ?_
  split
  · rename_i hlive
    have hread (isActive : Bool) : (takeSample isActive (readPin pinHigh s)).ComfortSound :=
      takeSample_comfortSound h hlive (h.lamp.pinRead hlive pinHigh) rfl rfl isActive
    split
    · exact hread pinHigh
    · exact hread !pinHigh
    · exact takePulseSample_comfortSound h hlive pinHigh
    · exact hpin
  · exact hpin

theorem execRisingEdge_comfort : AnswersComfort (execRisingEdge s) := by
  refine h.answersIf fun hpulse => ?_
  have hlow := takePulseSample_comfortSound h hpulse.1 false
  exact takePulseSample_comfortSound hlow ((takePulseSample_probingKept false s).live.trans hpulse.1) true

theorem execHoldTimerExpiry_comfort : AnswersComfort (execHoldTimerExpiry s) :=
  h.answersIf fun ho => onExpiry_comfortSound h fun _ => h.withLight (h.lamp.graced ho _)

theorem execGraceTimerExpiry_comfort : AnswersComfort (execGraceTimerExpiry s) :=
  h.answersIf fun ho => onExpiry_comfortSound h fun _ => h.withLight (h.lamp.vacated ho)

theorem execFadeTick_comfort : AnswersComfort (execFadeTick s) := by
  refine h.answersExpiry fun _ => ?_
  have hreloaded : (s.withLight { s.light with fadeTick := some (milliseconds 25) }).ComfortSound :=
    h.withMarks _ _ _ _ _ _ _ _
  dsimp only
  split
  · exact hreloaded
  · exact fadeStep_comfortSound hreloaded

/-- A sample timer runs in a live part alone. -/
theorem execSampleTimerExpiry_comfort : AnswersComfort (execSampleTimerExpiry s) := by
  have hclimate := h.climate
  refine h.answersExpiry fun hruns => ?_
  have hrestarted : (s.withClimate { s.climate with sampleTimer := some (seconds 10) }).ComfortSound :=
    h.withClimate { hclimate with sampling := fun hdead => by simp [hclimate.sampling hdead] at hruns }
  exact hrestarted.congr

theorem execReadingHoldExpiry_comfort : AnswersComfort (execReadingHoldExpiry s) := by
  have hclimate := h.climate
  have hdropped : (s.withClimate { s.climate with reading := none, readingHold := none }).ComfortSound :=
    h.withClimate { hclimate with reading := fun _ hnone => (by cases hnone), hold := rfl }
  exact h.answersExpiry fun _ => hdropped.congr

theorem execWarmthTimerExpiry_comfort : AnswersComfort (execWarmthTimerExpiry s) := by
  have hclimate := h.climate
  have hreloaded : (s.withClimate { s.climate with warmthTimer := some (seconds 60) }).ComfortSound :=
    h.withClimate { hclimate with }
  refine h.answersExpiry fun _ => ?_
  dsimp only
  split
  · exact hreloaded.congr
  · exact hreloaded

theorem execRosterSecond_comfort : AnswersComfort (execRosterSecond s) := by
  have hclimate := h.climate
  refine h.answersExpiry fun _ => h.withClimate ?_
  split
  · exact { hclimate.rostered hclimate.roster.aged fun hi => entriesOf_ageRoster (hclimate.idle hi).1 with }
  · exact { hclimate with }

/-- The control timer runs at a live terminal node alone. -/
theorem execControlStep_comfort : AnswersComfort (execControlStep s) := by
  have hclimate := h.climate
  refine h.answersIf fun hterminal => onExpiry_comfortSound h fun hruns => ?_
  have hworks : ¬ (s.terminal = false ∨ s.live = false) := fun hi => by simp [(hclimate.idle hi).2.2.2] at hruns
  have hlive : s.live = true := by simpa using fun hdead => hworks (.inr hdead)
  exact controlLaw_comfortSound (h.withClimate { hclimate with idle := fun hi => absurd hi hworks }) hterminal hlive

end Commands

theorem giveUpTurn_comfortSound {s : State} (h : s.ComfortSound) : (giveUpTurn s).ComfortSound := by
  unfold giveUpTurn
  dsimp only
  split
  · exact h.congr
  · exact h.congr

theorem execTemperatureConversionEnd_comfort {s : State} (h : s.ComfortSound) (hs : s.Sound) (code : AdcCode) :
    AnswersComfort (execTemperatureConversionEnd code s) := by
  refine State.ComfortSound.answers ?_
  split
  · rename_i hb
    exact ite_comfortSound h fun _ => endTemperature_comfortSound h hs hb code
  · exact h

theorem execLineWin_comfort {s : State} (h : s.ComfortSound) : AnswersComfort (execLineWin s) := by
  refine State.ComfortSound.answers ?_
  split
  · exact h.congr
  · exact h

theorem execLoss_comfort {s : State} (h : s.ComfortSound) : AnswersComfort (execLoss s) := by
  refine State.ComfortSound.answers ?_
  split
  · exact h.congr
  · exact h

/-- A part that sends has a request in its queue, and so is live. -/
theorem execNoticeCompletion_comfort {s : State} (h : s.ComfortSound) (hs : s.Sound) :
    AnswersComfort (execNoticeCompletion s) := by
  obtain ⟨-, -, -, -, -, -, -, -, -, hempty, -⟩ := hs.line
  refine State.ComfortSound.answers ?_
  split
  · rename_i hc hq
    have hlive : s.live = true := by
      by_contra hdead
      simp [hempty (by simpa using hdead)] at hq
    exact completeNotice_comfortSound h hlive (hs.line.inRange_of_sending hc) _
  · exact h

theorem execSaveCompletion_comfort {s : State} (h : s.ComfortSound) : AnswersComfort (execSaveCompletion s) := by
  refine State.ComfortSound.answers ?_
  split
  · exact h.congr
  · exact h

theorem execClearCompletion_comfort {s : State} (h : s.ComfortSound) : AnswersComfort (execClearCompletion s) := by
  refine State.ComfortSound.answers ?_
  split
  · exact h.congr
  · exact h

/-- Every command, from a sound state, answers a state in which the lamp and the climate are sound. -/
theorem exec_answersComfort {s : State} (hs : s.Sound) (c : Instr) : AnswersComfort (exec c s) := by
  have h := hs.comfort
  cases c with
  | reset => exact (afterReset_comfortSound s).answers
  | resetRelease pins => exact h.answersIf fun hp => releaseReset_comfortSound h hp pins
  | oscillatorWaitEnd => exact h.answersIf fun hp => readPages_comfortSound h hp
  | startOfListenOnly => exact h.answersIf fun hp => startListening_comfortSound h hp
  | endOfListenOnly => exact h.answersIf fun hp => release_comfortSound h hp
  | call | join | tally | stir | survey | claim | presence | warmth | ask | answer | set | forget =>
    exact (receive_comfortSound h _).answers
  | discardedNotice raw => exact (receiveBytes_comfortSound h raw).answers
  | guardStart => exact h.answersIf fun _ => passGuard_comfortSound h
  | startOfChips => exact h.answersIf fun _ => beginChips_comfortSound h
  | chipSignal chip => exact h.answersIf fun _ => signalChip_comfortSound h _
  | chipSample => exact h.answersIf fun _ => startLight_comfortSound h
  | lightConversionEnd code => exact h.answersIf fun _ => endLight_comfortSound h code
  | startOfSettle => exact h.answersIf fun _ => beginSettle_comfortSound h
  | roundClose => exact h.answersIf fun _ => closeRound_comfortSound h
  | sampleTimerExpiry => exact execSampleTimerExpiry_comfort h
  | temperatureConversionEnd code => exact execTemperatureConversionEnd_comfort h hs code
  | probeTimerExpiry =>
    refine h.answersIf fun _ => onExpiry_comfortSound h fun _ => ?_
    unfold becomeWanting
    exact h.congr
  | retryDelayExpiry => exact h.answersIf fun _ => onExpiry_comfortSound h fun _ => h.congr
  | wantDeadlineExpiry => exact h.answersIf fun _ => onExpiry_comfortSound h fun _ => giveUpTurn_comfortSound h
  | headFixing | backoffResume | lineStartBit | framerFirstIdle => exact h.answersIf fun _ => h.congr
  | lineWin => exact execLineWin_comfort h
  | loss => exact execLoss_comfort h
  | noticeCompletion => exact execNoticeCompletion_comfort h hs
  | briskTimerExpiry | agingMinute | stirSpacingExpiry | ageSecond | generationTimerExpiry | claimSpacingExpiry
  | startUpHoldEnd | restTimerExpiry | linkHoldOffExpiry => exact h.answersExpiry fun _ => h.congr
  | settleTimerExpiry => exact h.answersExpiry fun _ => zoneChange_comfortSound h.congr _ _
  | occupancySample pinHigh => exact execOccupancySample_comfort h pinHigh
  | risingEdge => exact execRisingEdge_comfort h
  | lockoutExpiry | presenceSpacingExpiry => exact h.answersExpiry fun _ => h.withMarks _ _ _ _ _ _ _ _
  | holdTimerExpiry => exact execHoldTimerExpiry_comfort h
  | graceTimerExpiry => exact execGraceTimerExpiry_comfort h
  | fadeTick => exact execFadeTick_comfort h
  | pwmReload => exact h.answersIf fun _ => h.withLight (h.lamp.reloaded _ _)
  | compareMatch => exact h.answersIf fun _ => h.withMarks _ _ _ _ _ _ _ _
  | readingHoldExpiry => exact execReadingHoldExpiry_comfort h
  | warmthTimerExpiry => exact execWarmthTimerExpiry_comfort h
  | rosterSecond => exact execRosterSecond_comfort h
  | controlStep => exact execControlStep_comfort h
  | saveCompletion => exact execSaveCompletion_comfort h
  | clearCompletion => exact execClearCompletion_comfort h

/-- So does every step. -/
theorem step_answersComfort {s : State} (hs : s.Sound) : AnswersComfort (step s) := by
  unfold step stepQueue
  split
  · rename_i c rest _
    exact exec_answersComfort (hs.withQueue rest s.free) c
  · rcases idleStep_cases s with ⟨-, h⟩ | ⟨-, -, h⟩ | ⟨c, -, -, h | h⟩ <;> rw [h]
    · exact hs.comfort.answers
    · exact (crystalCycle_comfortSound hs.comfort).answers
    · exact exec_answersComfort hs c
    · exact exec_answersComfort (hs.withQueue s.pending (s.free + 1)) c

/-- Settles O58: every command and every cycle of the crystal keeps the lamp and the climate sound. -/
theorem everyStepKeepsTheLampAndTheClimate : Obligations.EveryStepKeepsTheLampAndTheClimate := by
  intro s t hs hstep
  obtain ⟨u, hu, hsound⟩ := step_answersComfort hs
  obtain rfl : u = t := by simpa [hu] using hstep
  exact hsound.claims

end Sys2Proof.Machine

/-! SUPPORT. Service notices: ASK and SET (R134, R182, R187, R196 to R198). -/

namespace Sys2Proof.Machine

-- One thread, as above: a thread per theorem exceeds the memory limit of the check.
set_option Elab.async false

/-! ### Numbers in bytes (R197) -/

/-- Most significant byte first. -/
theorem natBytes2_eq (n : Nat) : natBytes2 n = [BitVec.ofNat 8 (n / 256), BitVec.ofNat 8 n] := by
  have hhigh : (BitVec.ofNat 16 n).extractLsb' 8 8 = BitVec.ofNat 8 (n / 256) := by
    apply BitVec.eq_of_toNat_eq
    simp only [BitVec.extractLsb'_toNat, BitVec.toNat_ofNat, Nat.shiftRight_eq_div_pow]
    omega
  have hlow : (BitVec.ofNat 16 n).extractLsb' 0 8 = BitVec.ofNat 8 n := by
    apply BitVec.eq_of_toNat_eq
    simp only [BitVec.extractLsb'_toNat, BitVec.toNat_ofNat, Nat.shiftRight_zero]
    omega
  rw [natBytes2, halfBytes, hhigh, hlow]

/-- A signed number is sent as its residue modulo 65536. -/
theorem intBytes2_eq (v : Int) : intBytes2 v = natBytes2 (v % 65536).toNat := by
  have hword : BitVec.ofInt 16 v = BitVec.ofNat 16 (v % 65536).toNat := by
    apply BitVec.eq_of_toNat_eq
    simp only [BitVec.toNat_ofInt, BitVec.toNat_ofNat]
    omega
  rw [intBytes2, natBytes2, hword]

@[simp] theorem stationBytes_length (i : Station) : (stationBytes i).length = 3 := rfl

@[simp] theorem natBytes2_length (n : Nat) : (natBytes2 n).length = 2 := rfl

@[simp] theorem intBytes2_length (v : Int) : (intBytes2 v).length = 2 := rfl

@[simp] theorem optBytes2_length (v : Option Nat) (absent : Nat) : (optBytes2 v absent).length = 2 := rfl

@[simp] theorem optIntBytes2_length (v : Option Int) : (optIntBytes2 v).length = 2 := by cases v <;> rfl

@[simp] theorem slotBytes_length (slot : Option Entry) : (slotBytes slot).length = 8 := by cases slot <;> rfl

@[simp] theorem rootBytes_length (slot : Option RootEntry) : (rootBytes slot).length = 4 := by cases slot <;> rfl

/-! ### The pages (R196, R197) -/

section Pages

variable (s : State)

theorem State.pageContent_table {p : Nat} (hlow : 1 ≤ p) (hhigh : p ≤ 4) : s.pageContent p = s.tablePage p := by
  rw [State.pageContent, if_neg (by omega), if_pos hhigh]

theorem State.pageContent_root {p : Nat} (hlow : 5 ≤ p) (hhigh : p ≤ 6) : s.pageContent p = s.rootPage p := by
  rw [State.pageContent, if_neg (by omega), if_neg (by omega), if_pos hhigh]

theorem State.page0_length : s.page0.length = 19 := by simp [State.page0]

theorem State.tablePage_length (p : Nat) : (s.tablePage p).length = 32 := by
  simp [State.tablePage, List.length_flatMap]

theorem State.rootPage_length (p : Nat) : (s.rootPage p).length = 32 := by
  simp [State.rootPage, List.length_flatMap]

theorem State.counterPage_length : s.counterPage.length = 16 := rfl

theorem State.climatePage_length : s.climatePage.length = 8 := by simp [State.climatePage]

theorem State.pageContent_length (p : Nat) :
    (s.pageContent p).length = if p = 0 then 19 else if p ≤ 6 then 32 else if p = 7 then 16 else if p = 8 then 8 else 0 := by
  unfold State.pageContent
  by_cases h0 : p = 0
  · simp [h0, s.page0_length]
  by_cases h4 : p ≤ 4
  · simp [h0, h4, show p ≤ 6 by omega, s.tablePage_length]
  by_cases h6 : p ≤ 6
  · simp [h0, h4, h6, s.rootPage_length]
  by_cases h7 : p = 7
  · simp [h7, s.counterPage_length]
  by_cases h8 : p = 8
  · simp [h8, s.climatePage_length]
  · simp [h0, h4, h6, h7, h8]

/-- Two bytes for each counter, in the order of R182. -/
theorem State.counterPage_eq :
    s.counterPage =
      natBytes2 s.line.counters.lineDrops ++ natBytes2 s.line.counters.queueRefusals ++
      natBytes2 s.line.counters.badNotices ++ natBytes2 s.line.counters.tableOverflows ++
      natBytes2 s.line.counters.missedTurns ++ natBytes2 s.line.counters.noisyRounds ++
      natBytes2 s.line.counters.clippedRounds ++ natBytes2 s.line.counters.disorderedRounds := rfl

/-- The last mean, the setpoint in effect, the damper, the count of the roster, and the reading. -/
theorem State.climatePage_eq :
    s.climatePage =
      optIntBytes2 s.climate.lastMean ++ intBytes2 s.effectiveSetpoint ++
      [BitVec.ofNat 8 s.climate.damper, BitVec.ofNat 8 (entriesOf s.climate.roster).length] ++
      optIntBytes2 s.climate.reading := by
  simp [State.climatePage]

end Pages

/-! ### ASK and SET taken -/

theorem exec_ask {s : State} (h : s.hears) {sender : Station} (h0 : sender ≠ 0) (target : Station) (page : Byte) :
    exec (.ask sender target page) s = .next (takeAsk target page s.atNoticeEnd) :=
  congrArg Host.Outcome.next (receive_of_inRange (n := ⟨sender, .ask target page⟩) h rfl ⟨h0, rfl⟩)

theorem exec_set {s : State} (h : s.hears) {sender : Station} (h0 : sender ≠ 0) (target : Station) {item : Byte}
    (hitem : item = 1 ∨ item = 2 ∨ item = 3) (value : Half) :
    exec (.set sender target item value) s = .next (takeSet target item value s.atNoticeEnd) := by
  have hknown : bodyInRange sender (.set target item value) = true := by
    rcases hitem with rfl | rfl | rfl <;> rfl
  exact congrArg Host.Outcome.next (receive_of_inRange (n := ⟨sender, .set target item value⟩) h rfl ⟨h0, hknown⟩)

/-- The task level takes its value, and the target stands where the value is the old one. -/
theorem setTask_eq (task : Nat) (s : State) :
    setTask task s = s.withLight { s.light with
      task := task
      target := if task = s.light.task then s.light.target else targetOf s.light.occupancy task } := by
  unfold setTask
  split
  next hsame => subst hsame; rfl
  next => rfl

/-- The item that a SET names takes its clamped value. -/
theorem setItem_task (value : Int) (s : State) :
    setItem 1 value s = setTask (max 0 (min 1000 value)).toNat s := by
  rw [setItem, clampInt_eq (by decide)]

theorem setItem_setpoint (value : Int) (s : State) :
    setItem 2 value s = s.withClimate { s.climate with setpoint := max 150 (min 300 value) } := by
  rw [setItem, clampInt_eq (by decide)]

theorem setItem_setback (value : Int) (s : State) :
    setItem 3 value s = s.withClimate { s.climate with setback := (max 0 (min 60 value)).toNat } := by
  rw [setItem, clampInt_eq (by decide)]

/-- Settles O48: the notice passes its judgement; the pages are compared field by field, the items of SET one by one. -/
theorem askAndSetServeTheStationTheyName : Obligations.AskAndSetServeTheStationTheyName := by
  refine ⟨fun sender target page s h h0 => ⟨exec_ask h h0 target page, s.pageContent_length page.toNat⟩,
    fun s => ⟨?page0, fun p hlow hhigh => ?table, fun p hlow hhigh => ?roots, ?counters, ?climate⟩,
    fun sender target item value s h h0 hitem => ?set⟩
  case page0 =>
    refine congrArg₂ (· ++ ·) (congrArg₂ (· ++ ·) (congrArg₂ (· ++ ·) (congrArg₂ (· ++ ·) rfl ?parent) ?states) ?self)
      (natBytes2_eq _)
    case parent => cases s.election.parent <;> rfl
    case states =>
      simp only [List.cons.injEq, and_true]
      refine ⟨?_, ?_, ?_, ?_⟩
      · cases s.zone.settle <;> rfl
      · cases s.sched.mode <;> rfl
      · cases s.sched.state <;> rfl
      · cases s.table.sensor <;> rfl
    case self =>
      rcases s.sense.lastSelf with _ | k | _ | _
      · rfl
      · exact natBytes2_eq k
      · rfl
      · rfl
  case table =>
    rw [s.pageContent_table hlow hhigh]
    refine congrArg (List.flatMap · [0, 1, 2, 3]) (funext fun i => ?_)
    rcases slotAt s.table.slots (4 * (p - 1) + i) with _ | e
    · rfl
    · refine congrArg₂ (· ++ ·) (congrArg₂ (· ++ ·) (congrArg₂ (· ++ ·) rfl ?seen) ?told) ?link
      case seen =>
        rcases e.seen with _ | k
        · rfl
        · exact natBytes2_eq k
      case told =>
        rcases e.told with _ | v
        · rfl
        · exact natBytes2_eq v
      case link => cases e.link <;> rfl
  case roots =>
    rw [s.pageContent_root hlow hhigh]
    refine congrArg (List.flatMap · [0, 1, 2, 3, 4, 5, 6, 7]) (funext fun i => ?_)
    cases slotAt s.election.roots (8 * (p - 5) + i) <;> rfl
  case counters =>
    refine s.counterPage_eq.trans ?_
    simp only [natBytes2_eq]
  case climate =>
    have hsigned (v : Int) : intBytes2 v = _ := (intBytes2_eq v).trans (natBytes2_eq _)
    refine s.climatePage_eq.trans
      (congrArg₂ (· ++ ·) (congrArg₂ (· ++ ·) (congrArg₂ (· ++ ·) ?mean (hsigned _)) rfl) ?reading)
    case mean =>
      rcases s.climate.lastMean with _ | v
      · rfl
      · exact hsigned v
    case reading =>
      rcases s.climate.reading with _ | v
      · rfl
      · exact hsigned v
  case set =>
    refine (exec_set h h0 target hitem value).trans (congrArg Host.Outcome.next ?_)
    refine if_congr Iff.rfl (congrArg saveRequest ?_) rfl
    rcases hitem with rfl | rfl | rfl
    · exact (setItem_task _ _).trans (setTask_eq _ _)
    · exact setItem_setpoint _ _
    · exact setItem_setback _ _

end Sys2Proof.Machine

/-! SUPPORT. The warmth roster written, heard and aged; the demand, the effective setpoint and the control step (R147 to
R161). -/

namespace Sys2Proof.Machine

-- One thread, as above: a thread per theorem exceeds the memory limit of the check.
set_option Elab.async false

/-! ### The slot a write takes (R151) -/

/-- What the roster weighs in a slot: the age of its entry. -/
def ageAt (roster : List (Option RosterEntry)) (i : Nat) : Option Nat := (slotAt roster i).map fun e => e.age

theorem ageAt_eq_some {roster : List (Option RosterEntry)} {i age : Nat} :
    ageAt roster i = some age ↔ ∃ e, slotAt roster i = some e ∧ e.age = age := by
  simp [ageAt]

/-- The oldest entry has the highest age, and of equal ages the first slot. -/
theorem oldestSlot_eq (roster : List (Option RosterEntry)) :
    oldestSlot roster = (bestSlot (ageAt roster) (fun v w => decide (w < v)) roster.length).map Prod.fst := by
  unfold oldestSlot bestSlot
  congr 2
  funext best i
  unfold betterSlot ageAt
  cases slotAt roster i with
  | none => rfl
  | some e => cases best <;> simp

section Write

variable {station : Station} {temperature : Int} {roster : List (Option RosterEntry)} {i : Nat} {e : RosterEntry}

theorem oldestSlot_eq_some (he : slotAt roster i = some e)
    (hold : ∀ n x, slotAt roster n = some x → x.age < e.age ∨ (x.age = e.age ∧ i ≤ n)) : oldestSlot roster = some i := by
  have hbest : bestSlot (ageAt roster) (fun v w => decide (w < v)) roster.length = some (i, e.age) := by
    refine bestSlot_eq_some (lt_of_slotAt he) (ageAt_eq_some.mpr ⟨e, he, rfl⟩) (fun n age hn hage => ?_) fun n age hage => ?_
    · obtain ⟨x, hx, rfl⟩ := ageAt_eq_some.mp hage
      rcases hold n x hx with hlt | ⟨-, hle⟩
      · exact decide_eq_true hlt
      · exact absurd hle (Nat.not_le_of_lt hn)
    · obtain ⟨x, hx, rfl⟩ := ageAt_eq_some.mp hage
      have := hold n x hx
      exact decide_eq_false (by omega)
  rw [oldestSlot_eq, hbest]
  rfl

theorem writeRoster_own (he : slotAt roster i = some e) (hstation : e.station = station)
    (hfirst : ∀ n x, n < i → slotAt roster n = some x → x.station ≠ station) :
    writeRoster station temperature roster = roster.set i (some ⟨station, temperature, 0⟩) := by
  have hfind : findSlot roster (fun e => decide (e.station = station)) = some i :=
    findSlot_eq_some he (decide_eq_true hstation) fun n x hn hx => decide_eq_false (hfirst n x hn hx)
  simp only [writeRoster, hfind]

/-- A station without an entry takes the empty slot, else the oldest entry's. -/
theorem writeRoster_new (hnew : ∀ e ∈ entriesOf roster, e.station ≠ station)
    (hslot : emptySlot roster = some i ∨ (emptySlot roster = none ∧ oldestSlot roster = some i)) :
    writeRoster station temperature roster = roster.set i (some ⟨station, temperature, 0⟩) := by
  have hfind : findSlot roster (fun e => decide (e.station = station)) = none :=
    findSlot_eq_none_iff.mpr fun e he => decide_eq_false (hnew e he)
  rcases hslot with hempty | ⟨hfull, holdest⟩
  · simp only [writeRoster, hfind, hempty]
  · simp only [writeRoster, hfind, hfull, holdest]

end Write

/-! ### WARMTH queued, heard and aged out (R147, R150, R153) -/

theorem exec_warmthTimerExpiry {s : State} (h : s.climate.warmthTimer.isSome = true) :
    exec .warmthTimerExpiry s =
      .next (if s.climate.reading.isSome then
          offer .warmth (s.withClimate { s.climate with warmthTimer := some (seconds 60) })
        else s.withClimate { s.climate with warmthTimer := some (seconds 60) }) := by
  simp only [exec, execWarmthTimerExpiry, onExpiry, if_pos h]

theorem exec_warmth {s : State} (h : s.hears) {sender : Station} (h0 : sender ≠ 0) (zone : Station) (temperature : Half) :
    exec (.warmth sender zone temperature) s = .next (takeWarmth sender zone temperature.toInt s.atNoticeEnd) :=
  congrArg Host.Outcome.next (receive_of_inRange (n := ⟨sender, .warmth zone temperature⟩) h rfl ⟨h0, rfl⟩)

theorem takeWarmth_eq (sender zone : Station) (temperature : Int) (s : State) :
    takeWarmth sender zone temperature s =
      if s.terminal = true ∧ isTool sender = false ∧ (-200 ≤ temperature ∧ temperature ≤ 799) ∧ zone = s.zone.working then
        reportTemperature sender temperature s
      else s := by
  unfold takeWarmth
  simp only [Bool.and_eq_true, Bool.not_eq_true', decide_eq_true_eq, and_assoc]

theorem exec_rosterSecond {s : State} (h : s.climate.rosterSecond.isSome = true) :
    exec .rosterSecond s =
      .next (s.withClimate { s.climate with
        rosterSecond := some (seconds 1)
        roster := if s.terminal then ageRoster s.climate.roster else s.climate.roster }) := by
  simp only [exec, execRosterSecond, onExpiry, if_pos h]

/-- Settles O37: the timer, the notice, the slot written and the roster second, one by one. -/
theorem warmthIsSentTakenAndAged : Obligations.WarmthIsSentTakenAndAged := by
  refine ⟨fun s h => ?timer, fun sender zone temperature s h h0 => ?heard, fun station temperature roster => ?written,
    fun s h => ⟨_, exec_rosterSecond h, fun hterminal => ?still, fun hterminal i => ?aged⟩⟩
  case timer =>
    rw [exec_warmthTimerExpiry h]
    cases s.climate.reading <;> rfl
  case heard =>
    rw [exec_warmth h h0, takeWarmth_eq]
    rfl
  case written =>
    refine ⟨fun i e he hstation hfirst => writeRoster_own he hstation hfirst, fun hnew =>
      ⟨fun i hi hnone hfirst => writeRoster_new hnew (.inl ?_), fun i e he hfull hold => writeRoster_new hnew (.inr ?_)⟩⟩
    · exact emptySlot_eq_some_iff.mpr ⟨hi, hnone, hfirst⟩
    · exact ⟨emptySlot_eq_none_iff.mpr hfull, oldestSlot_eq_some he hold⟩
  case still => simp [hterminal]
  case aged =>
    rw [if_pos hterminal]
    exact slotAt_ageRoster _ i

/-! ### The demand (R158) -/

theorem demandOf_of_nonpos {e : Int} (h : e ≤ 0) : demandOf e = 38 := if_pos h

theorem demandOf_of_ge_twenty {e : Int} (h : 20 ≤ e) : demandOf e = 255 := by
  rw [demandOf, if_neg (by omega), if_pos h]

/-- The law of the errors between 0 and 20 gives 38 at error 0 as well. -/
theorem demandOf_between {e : Int} (hlow : 0 ≤ e) (hhigh : e ≤ 19) : (demandOf e : Int) = 38 + e * 217 / 20 := by
  unfold demandOf
  split
  · omega
  · rw [if_neg (by omega)]
    omega

/-- Settles O39. An error of 20 would give 255 by the law of the errors below it too, so that every step from 0 to 20 is one
of 217 / 20. -/
theorem demandFollowsTheError : Obligations.DemandFollowsTheError := by
  refine fun e => ⟨?low, demandOf_le e, demandOf_of_nonpos, fun hlow => demandOf_between (by omega), demandOf_of_ge_twenty,
    fun hlow hhigh => ?step⟩
  case low =>
    unfold demandOf
    split_ifs <;> omega
  case step =>
    have hhere := demandOf_between hlow hhigh
    have hnext : (demandOf (e + 1) : Int) = 38 + (e + 1) * 217 / 20 := by
      rcases Int.lt_or_le (e + 1) 20 with hbelow | hfull
      · exact demandOf_between (by omega) (by omega)
      · rw [demandOf_of_ge_twenty hfull]
        omega
    omega

/-! ### The effective setpoint (R155, R156) -/

theorem zoneSetpoint_of_rootEntry {s : State} {e : RootEntry} (h : rootEntry s.election.roots s.zone.working = some e) :
    s.zoneSetpoint = (max 150 (min 300 e.setpoint), ((min 60 e.setback : Nat) : Int)) := by
  have hsetback : clampInt 0 60 e.setback = ((min 60 e.setback : Nat) : Int) := by
    rw [clampInt_eq (by decide)]
    omega
  rw [State.zoneSetpoint, h, ← hsetback, ← clampInt_eq (by decide)]

theorem zoneSetpoint_of_no_rootEntry {s : State} (h : rootEntry s.election.roots s.zone.working = none) :
    s.zoneSetpoint = (s.climate.setpoint, (s.climate.setback : Int)) := by
  rw [State.zoneSetpoint, h]

/-- The setback counts while VACANT alone. -/
theorem effectiveSetpoint_eq (s : State) :
    s.effectiveSetpoint = s.zoneSetpoint.1 + if s.light.occupancy = .vacant then s.zoneSetpoint.2 else 0 := by
  unfold State.effectiveSetpoint
  cases s.light.occupancy <;> simp

/-- From a local setpoint and setback in range, the zone's are in range, whichever they are. -/
theorem zoneSetpoint_range {s : State} (hlow : 150 ≤ s.climate.setpoint) (hhigh : s.climate.setpoint ≤ 300)
    (hback : s.climate.setback ≤ 60) :
    (150 ≤ s.zoneSetpoint.1 ∧ s.zoneSetpoint.1 ≤ 300) ∧ 0 ≤ s.zoneSetpoint.2 ∧ s.zoneSetpoint.2 ≤ 60 := by
  cases h : rootEntry s.election.roots s.zone.working with
  | none =>
    rw [zoneSetpoint_of_no_rootEntry h]
    exact ⟨⟨hlow, hhigh⟩, by omega, by omega⟩
  | some e =>
    rw [zoneSetpoint_of_rootEntry h]
    dsimp only
    omega

/-! ### The control step (R157, R159) -/

theorem exec_controlStep {s : State} (hterminal : s.terminal = true) (h : s.climate.controlTimer.isSome = true) :
    exec .controlStep s = .next (controlLaw (s.withClimate { s.climate with controlTimer := some (seconds 60) })) := by
  simp only [exec, execControlStep, onExpiry, if_pos hterminal, if_pos h]

theorem controlLaw_of_empty {s : State} (h : entriesOf s.climate.roster = []) : controlLaw s = s := by
  rw [controlLaw, h]

theorem controlLaw_of_entries {s : State} (h : entriesOf s.climate.roster ≠ []) :
    controlLaw s =
      (let mean := meanOf ((entriesOf s.climate.roster).map fun e => e.temperature)
      s.withClimate { s.climate with
        lastMean := some mean
        damper := moveToward s.climate.damper (demandOf (mean - s.effectiveSetpoint)) 24 24 }) := by
  unfold controlLaw
  split
  · rename_i hnone
    exact absurd hnone h
  · rfl

/-- At the goal the move down is none. -/
theorem moveToward_eq (value goal up down : Nat) :
    moveToward value goal up down = if value < goal then min (value + up) goal else max (value - down) goal := by
  unfold moveToward
  split_ifs <;> omega

/-- Settles O38: the control law on the roster held, and the effective setpoint by where the zone's comes from. -/
theorem controlStepMovesTheDamperTowardTheDemand : Obligations.ControlStepMovesTheDamperTowardTheDemand := by
  refine ⟨fun s hterminal hruns => ⟨fun hnone => ?empty, fun hsome => ?held⟩, fun s hlow hhigh hback =>
    ⟨fun e he => ?root, fun hnone => ?own, ?range⟩⟩
  case empty =>
    rw [exec_controlStep hterminal hruns, controlLaw_of_empty (by exact hnone)]
    rfl
  case held =>
    rw [exec_controlStep hterminal hruns, controlLaw_of_entries (by exact hsome)]
    simp only [moveToward_eq, meanOf, List.length_map]
    rfl
  case root => rw [effectiveSetpoint_eq, zoneSetpoint_of_rootEntry he]
  case own => rw [effectiveSetpoint_eq, zoneSetpoint_of_no_rootEntry hnone]
  case range =>
    obtain ⟨⟨hzoneLow, hzoneHigh⟩, hbackLow, hbackHigh⟩ := zoneSetpoint_range hlow hhigh hback
    rw [effectiveSetpoint_eq]
    split_ifs <;> omega

end Sys2Proof.Machine

/-! SUPPORT. The transmit queue in two parts, the fixed head and the rest: what an entry, a displacement and a withdrawal make
of it (R169 to R173, R179). -/

namespace Sys2Proof.Machine

-- One thread, as above: a thread per theorem exceeds the memory limit of the check.
set_option Elab.async false

/-! ### The fixed head and what stands behind it (R171, R172) -/

/-- The fixed head, where one is fixed. -/
def LineInterface.fixedHead (l : LineInterface) : List Queued := if l.contention = .unfixed then [] else l.queue.take 1

section Parts

variable (l : LineInterface) (r : Request)

theorem displaceable_eq : l.displaceable = if l.contention = .unfixed then l.queue else l.queue.tail := by
  unfold LineInterface.displaceable
  cases l.contention <;> rfl

theorem fixedHead_append : l.fixedHead ++ l.displaceable = l.queue := by
  rw [LineInterface.fixedHead, displaceable_eq]
  split
  · rfl
  · cases l.queue <;> rfl

/-- A request enters behind the fixed head, at its place by rank (R169, R172). -/
theorem enter_queue : (l.enter r).queue = l.fixedHead ++ insertByRank ⟨r, l.entries⟩ l.displaceable := by
  rw [LineInterface.fixedHead, displaceable_eq]
  unfold LineInterface.enter
  cases l.contention with
  | unfixed => rfl
  | fixed e a head => cases l.queue <;> rfl

/-- A request leaves from behind the fixed head (R171). -/
theorem displace_eq (v : Queued) : l.displace v = { l with queue := l.fixedHead ++ l.displaceable.erase v } := by
  rw [LineInterface.fixedHead, displaceable_eq]
  unfold LineInterface.displace
  cases l.contention with
  | unfixed => rfl
  | fixed e a head => cases l.queue <;> rfl

end Parts

/-- With other requests behind the fixed head, the head is the same. -/
theorem behindHead_parts {l : LineInterface} (hhead : l.contention ≠ .unfixed → l.queue ≠ []) (rest : List Queued) :
    let m : LineInterface := { l with queue := l.fixedHead ++ rest }
    m.fixedHead = l.fixedHead ∧ m.displaceable = rest ∧ m.sendingRequest = l.sendingRequest := by
  dsimp only
  simp only [displaceable_eq, LineInterface.fixedHead, LineInterface.sendingRequest]
  cases hc : l.contention with
  | unfixed => simp
  | fixed e a head =>
    obtain ⟨q, behind, hq⟩ := List.exists_cons_of_ne_nil (hhead (by simp [hc]))
    cases head <;> simp [hq]

/-- Nothing is being sent where no head is fixed. -/
theorem sendingRequest_of_unfixed {l : LineInterface} (h : l.contention = .unfixed) : l.sendingRequest = none := by
  simp [LineInterface.sendingRequest, h]

theorem sendingRequest_eq_none {l : LineInterface} (h : ∀ e a n units, l.contention ≠ .fixed e a (.sending n units)) :
    l.sendingRequest = none := by
  unfold LineInterface.sendingRequest
  split
  · rename_i e a n units _ _ hc _
    exact absurd hc (h e a n units)
  · rfl

/-- What is being sent stands in the queue. -/
theorem holds_of_sending {l : LineInterface} {r : Request} (h : l.sendingRequest = some r) : l.holds r = true := by
  unfold LineInterface.sendingRequest at h
  split at h
  · rename_i hq
    simp only [Option.some.injEq] at h
    simp [LineInterface.holds, hq, h]
  · cases h

/-! ### The victim (R171) -/

/-- Of two requests the one that entered last. -/
def laterEntered (best : Option Queued) (q : Queued) : Option Queued :=
  match best with
  | none => some q
  | some b => if b.entered ≤ q.entered then some q else some b

theorem victim_eq (l : LineInterface) (k : Nat) :
    l.victim k = (l.displaceable.filter (fun q => decide (k < rank q.request))).foldl laterEntered none := rfl

theorem laterEntered_cases (best : Option Queued) (q : Queued) :
    laterEntered best q = some q ∨ (best ≠ none ∧ laterEntered best q = best) := by
  unfold laterEntered
  cases best with
  | none => exact .inl rfl
  | some b =>
    dsimp only
    split
    · exact .inl rfl
    · exact .inr ⟨by simp, rfl⟩

/-- The later of several is one of them, or the one begun with; there is one where there are any. -/
theorem foldl_laterEntered_mem (queue : List Queued) (best : Option Queued) :
    (∀ v, queue.foldl laterEntered best = some v → v ∈ queue ∨ best = some v) ∧
      (queue.foldl laterEntered best = none → queue = [] ∧ best = none) := by
  induction queue generalizing best with
  | nil => exact ⟨fun v h => .inr h, fun h => ⟨rfl, h⟩⟩
  | cons q rest ih =>
    obtain ⟨hmem, hnone⟩ := ih (laterEntered best q)
    refine ⟨fun v h => ?_, fun h => ?_⟩
    · rcases hmem v h with hv | hv
      · exact .inl (List.mem_cons_of_mem q hv)
      · rcases laterEntered_cases best q with e | ⟨-, e⟩ <;> rw [e] at hv
        · cases hv
          exact .inl List.mem_cons_self
        · exact .inr hv
    · rcases laterEntered_cases best q with e | ⟨hsome, e⟩
      · exact absurd ((hnone h).2) (by simp [e])
      · exact absurd (e ▸ (hnone h).2) hsome

/-- The last entered of several is the later of them all. -/
theorem foldl_laterEntered_last {queue : List Queued} {v : Queued} {best : Option Queued}
    (hlast : ∀ q ∈ queue, q = v ∨ q.entered < v.entered) (hbest : ∀ b ∈ best, b = v ∨ b.entered < v.entered)
    (hv : v ∈ queue ∨ best = some v) : queue.foldl laterEntered best = some v := by
  induction queue generalizing best with
  | nil => exact hv.resolve_left (by simp)
  | cons q rest ih =>
    have hq := hlast q List.mem_cons_self
    refine ih (fun x hx => hlast x (List.mem_cons_of_mem q hx)) ?_ ?_
    · rcases laterEntered_cases best q with e | ⟨-, e⟩ <;> rw [e]
      · simpa using hq
      · exact hbest
    · by_cases hrest : v ∈ rest
      · exact .inl hrest
      · right
        rcases hv with hv | rfl
        · obtain rfl : v = q := by simpa [hrest] using hv
          cases best with
          | none => rfl
          | some b => exact if_pos (by rcases hbest b rfl with rfl | h <;> omega)
        · rcases hq with rfl | hq
          · simp [laterEntered]
          · exact if_neg (by omega)

/-- The victim stands behind the fixed head, at a higher rank number. -/
theorem victim_some {l : LineInterface} {k : Nat} {v : Queued} (h : l.victim k = some v) :
    v ∈ l.displaceable ∧ k < rank v.request := by
  rcases (foldl_laterEntered_mem _ none).1 v h with hv | hv
  · simpa using hv
  · cases hv

theorem victim_none {l : LineInterface} {k : Nat} : l.victim k = none ↔ ∀ q ∈ l.displaceable, rank q.request ≤ k := by
  refine ⟨fun h => ?_, fun h => ?_⟩
  · simpa using (foldl_laterEntered_mem _ none).2 h
  · rw [victim_eq, List.filter_eq_nil_iff.mpr (by simpa using h)]
    rfl

theorem victim_last {l : LineInterface} {k : Nat} {v : Queued} (hv : v ∈ l.displaceable) (hk : k < rank v.request)
    (hlast : ∀ q ∈ l.displaceable, k < rank q.request → q = v ∨ q.entered < v.entered) : l.victim k = some v := by
  refine foldl_laterEntered_last (fun q hq => ?_) (by simp) (.inl (by simpa using ⟨hv, hk⟩))
  simp only [List.mem_filter, decide_eq_true_eq] at hq
  exact hlast q hq.1 hq.2

end Sys2Proof.Machine

/-! SUPPORT. The line sound, field by field, and what its operations make of it (R164, R169 to R178, R182). -/

namespace Sys2Proof.Machine

-- One thread, as above: a thread per theorem exceeds the memory limit of the check.
set_option Elab.async false

/-! ### The parts of a sound line -/

/-- The event counters within 16 bits (R182). -/
structure Counters.Fit (c : Counters) : Prop where
  lineDrops : c.lineDrops ≤ 65535
  queueRefusals : c.queueRefusals ≤ 65535
  badNotices : c.badNotices ≤ 65535
  tableOverflows : c.tableOverflows ≤ 65535
  missedTurns : c.missedTurns ≤ 65535
  noisyRounds : c.noisyRounds ≤ 65535
  clippedRounds : c.clippedRounds ≤ 65535
  disorderedRounds : c.disorderedRounds ≤ 65535

theorem bump_le {n : Nat} (h : n ≤ 65535) : bump n ≤ 65535 := by
  rcases bump_cases n with ⟨_, e⟩ | ⟨_, e⟩ <;> omega

/-- A sound line at a station, in a phase of start-up. -/
structure LineFits (phase : StartPhase) (own : Station) (l : LineInterface) : Prop where
  short : l.queue.length ≤ 8
  ordered : l.displaceable.Pairwise queueOrdered
  numbered : ∀ q ∈ l.queue, q.entered < l.entries
  once : ∀ r, heldOnce r = true → l.queue.countP (fun q => decide (q.request = r)) ≤ 1
  bodies : ∀ q ∈ l.queue, requestSound q.request
  contention : contentionSound own l.contention
  head : l.contention ≠ .unfixed → l.queue ≠ []
  following : l.followOn = true →
    l.sendingRequest = some .claim ∨ l.sendingRequest = some .presence ∨ l.sendingRequest = some .warmth
  taken : ∀ q ∈ l.queue, takesRequest phase q.request = true
  counted : l.counters.Fit

theorem heldOnce_iff (r : Request) : heldOnce r = true ↔ r ∈ [Request.callJoin, .claim, .presence, .warmth] := by
  cases r <;> simp [heldOnce]

/-- The queue takes every kind in RUNNING and an ANSWER in listen-only (R170, R180). -/
theorem takesRequest_iff (phase : StartPhase) (r : Request) :
    takesRequest phase r = true ↔ phase = .running ∨ (phase = .listenOnly ∧ ∃ page content, r = .answer page content) := by
  cases phase <;> cases r <;> simp [takesRequest]

theorem isAnswer_iff (r : Request) : r.isAnswer = true ↔ ∃ page content, r = .answer page content := by
  cases r <;> simp [Request.isAnswer]

/-- Before the end of listen-only ANSWERs alone stand in the queue, and before its start none, where the queue took every
request that stands in it. -/
theorem taken_iff (s : State) :
    (∀ q ∈ s.line.queue, takesRequest s.phase q.request = true) ↔
      (s.phase ≠ .running → ∀ q ∈ s.line.queue, q.request.isAnswer = true) ∧ (s.live = false → s.line.queue = []) := by
  simp only [takesRequest_iff, isAnswer_iff, List.eq_nil_iff_forall_not_mem]
  cases hp : s.phase with
  | held | oscillatorWait | restored =>
    simpa [State.live, hp] using fun hnone q hq => absurd hq (hnone q)
  | listenOnly | running => simp [State.live, hp]

theorem lineSound_iff (s : State) : s.LineSound ↔ LineFits s.phase s.station s.line := by
  constructor
  · rintro ⟨hshort, hordered, hnumbered, honce, hbodies, hcontention, hhead, hfollow, hanswers, hempty,
      h1, h2, h3, h4, h5, h6, h7, h8⟩
    exact ⟨hshort, hordered, hnumbered, fun r hr => honce r ((heldOnce_iff r).mp hr), hbodies, hcontention, hhead, hfollow,
      (taken_iff s).mpr ⟨hanswers, hempty⟩, h1, h2, h3, h4, h5, h6, h7, h8⟩
  · rintro ⟨hshort, hordered, hnumbered, honce, hbodies, hcontention, hhead, hfollow, htaken, h1, h2, h3, h4, h5, h6, h7, h8⟩
    obtain ⟨hanswers, hempty⟩ := (taken_iff s).mp htaken
    exact ⟨hshort, hordered, hnumbered, fun r hr => honce r ((heldOnce_iff r).mpr hr), hbodies, hcontention, hhead, hfollow,
      hanswers, hempty, h1, h2, h3, h4, h5, h6, h7, h8⟩

/-- A request behind all of its rank, and numbered after them all, is in its place (R169). -/
theorem insertByRank_ordered {queue : List Queued} (h : queue.Pairwise queueOrdered) {q : Queued}
    (hlast : ∀ x ∈ queue, x.entered < q.entered) : (insertByRank q queue).Pairwise queueOrdered := by
  obtain ⟨before, after, rfl, hinserted, hbefore, hafter⟩ := insertByRank_split q queue
  obtain ⟨hpre, hpost, hcross⟩ := List.pairwise_append.mp h
  rw [hinserted]
  refine List.pairwise_append.mpr ⟨hpre, List.pairwise_cons.mpr ⟨fun y hy => ?_, hpost⟩, fun x hx y hy => ?_⟩
  · obtain ⟨z, rest, rfl⟩ := List.exists_cons_of_ne_nil (List.ne_nil_of_mem hy)
    have hz : rank q.request < rank z.request := hafter z rfl
    rcases List.mem_cons.mp hy with rfl | hy
    · exact .inl hz
    · rcases (List.pairwise_cons.mp hpost).1 y hy with hzy | hzy
      · exact .inl (by omega)
      · exact .inl (by omega)
  · rcases List.mem_cons.mp hy with rfl | hy
    · rcases Nat.lt_or_eq_of_le (hbefore x hx) with hlt | heq
      · exact .inl hlt
      · exact .inr ⟨heq, hlast x (List.mem_append_left _ hx)⟩
    · exact hcross x hx y hy

namespace LineFits

variable {phase : StartPhase} {own : Station} {l : LineInterface} {r : Request}

/-- What a line must be is a matter of its queue, its contention state, its follow-on and its counters. -/
theorem congr (h : LineFits phase own l) (level : LineLevel) (framer : Framer) (listenOnly : Timer) :
    LineFits phase own { l with level := level, framer := framer, listenOnly := listenOnly } := { h with }

/-- Another count within 16 bits. -/
theorem count (h : LineFits phase own l) {c : Counters} (hc : c.Fit) : LineFits phase own { l with counters := c } :=
  { h with counted := hc }

/-- No follow-on is held where no notice is being sent. -/
theorem alone (h : LineFits phase own l) (hsilent : l.sendingRequest = none) : l.followOn = false := by
  by_contra hf
  rcases h.following (by simpa using hf) with hs | hs | hs <;> simp [hsilent] at hs

/-- The first request, fixed as head (R172). -/
theorem fixed (h : LineFits phase own l) (hc : l.contention = .unfixed) (hq : l.queue ≠ []) (units : Nat) :
    LineFits phase own { l with contention := .fixed 3 0 (.counting units) } := by
  have halone := h.alone (sendingRequest_of_unfixed hc)
  have hordered := h.ordered
  rw [displaceable_eq, if_pos hc] at hordered
  exact { h with
    ordered := hordered.sublist (List.tail_sublist _)
    contention := ⟨by decide, by decide⟩
    head := fun _ => hq
    following := fun hf => by simp [halone] at hf }

/-- The fixed head does something else; a follow-on is dropped (R174, R176). -/
theorem turned (h : LineFits phase own l) {e a e' a' : Nat} {head head' : HeadState} (hc : l.contention = .fixed e a head)
    (hsound : contentionSound own (.fixed e' a' head')) (level : LineLevel) :
    LineFits phase own { l with contention := .fixed e' a' head', followOn := false, level := level } := by
  have hordered := h.ordered
  rw [displaceable_eq, if_neg (by simp [hc])] at hordered
  exact { h with
    ordered := hordered
    contention := hsound
    head := fun _ => h.head (by simp [hc])
    following := fun hf => by cases hf }

/-- A head that does not send does something else. -/
theorem waited (h : LineFits phase own l) {e a e' a' : Nat} {head head' : HeadState} (hc : l.contention = .fixed e a head)
    (hsilent : ∀ n units, head ≠ .sending n units) (hsound : contentionSound own (.fixed e' a' head')) (level : LineLevel) :
    LineFits phase own { l with contention := .fixed e' a' head', level := level } := by
  have halone : l.followOn = false := by
    refine h.alone (sendingRequest_eq_none fun e a n units hs => ?_)
    rw [hc] at hs
    cases hs
    exact hsilent n units rfl
  have hturned := h.turned hc hsound level
  rwa [← halone] at hturned

/-- Some of the requests behind the head leave. -/
theorem thinned (h : LineFits phase own l) {rest : List Queued} (hrest : rest.Sublist l.displaceable) :
    LineFits phase own { l with queue := l.fixedHead ++ rest } := by
  obtain ⟨-, hbehind, hsending⟩ := behindHead_parts h.head rest
  have hsub : (l.fixedHead ++ rest).Sublist l.queue := by
    conv_rhs => rw [← fixedHead_append l]
    exact List.Sublist.append_left hrest _
  exact {
    short := hsub.length_le.trans h.short
    ordered := by rw [hbehind]; exact h.ordered.sublist hrest
    numbered := fun q hq => h.numbered q (hsub.subset hq)
    once := fun r hr => (hsub.countP_le).trans (h.once r hr)
    bodies := fun q hq => h.bodies q (hsub.subset hq)
    contention := h.contention
    head := fun hc => by
      obtain ⟨q, behind, hq⟩ := List.exists_cons_of_ne_nil (h.head hc)
      have hc' : l.contention ≠ .unfixed := hc
      simp [LineInterface.fixedHead, hc', hq]
    following := fun hf => by rw [hsending]; exact h.following hf
    taken := fun q hq => h.taken q (hsub.subset hq)
    counted := h.counted }

/-- A request enters a queue with room, of which there is none yet where its kind is held once (R169, R170). -/
theorem entered (h : LineFits phase own l) (hroom : l.queue.length < 8) (hbody : requestSound r)
    (htakes : takesRequest phase r = true) (hnew : heldOnce r = true → l.holds r = false) :
    LineFits phase own (l.enter r) := by
  obtain ⟨hperm, henter⟩ := enter_spec l r
  obtain ⟨-, hbehind, hsending⟩ := behindHead_parts h.head (insertByRank ⟨r, l.entries⟩ l.displaceable)
  have hmem {P : Queued → Prop} (hr : P ⟨r, l.entries⟩) (hl : ∀ q ∈ l.queue, P q) : ∀ q ∈ (l.enter r).queue, P q := by
    intro q hq
    rcases List.mem_cons.mp (hperm.subset hq) with rfl | hq
    · exact hr
    · exact hl q hq
  rw [← enter_queue] at hbehind hsending
  exact {
    short := by rw [hperm.length_eq]; exact hroom
    ordered := by
      refine (congrArg (List.Pairwise queueOrdered) hbehind).mpr (insertByRank_ordered h.ordered fun x hx => ?_)
      refine h.numbered x ?_
      rw [← fixedHead_append l]
      exact List.mem_append_right _ hx
    numbered := hmem (Nat.lt_succ_self _) fun q hq => Nat.lt_succ_of_lt (h.numbered q hq)
    once := fun k hk => by
      rw [hperm.countP_eq, List.countP_cons]
      by_cases hkind : r = k
      · have hnone : l.queue.countP (fun q => decide (q.request = k)) = 0 := by
          subst hkind
          simpa [LineInterface.holds] using hnew hk
        simp [hnone, hkind]
      · simpa [hkind] using h.once k hk
    bodies := hmem hbody h.bodies
    contention := h.contention
    head := fun _ hnil => by simpa [hnil] using hperm.length_eq
    following := fun hf => (congrArg (fun x => x = some Request.claim ∨ x = some .presence ∨ x = some .warmth) hsending).mpr
      (h.following hf)
    taken := hmem htakes h.taken
    counted := h.counted }

/-- A victim gives way to a request (R171). -/
theorem displaced (h : LineFits phase own l) {v : Queued} (hv : v ∈ l.displaceable) (hbody : requestSound r)
    (htakes : takesRequest phase r = true) (hnew : heldOnce r = true → l.holds r = false) :
    LineFits phase own ((l.displace v).enter r) := by
  have hthinned := h.thinned (List.erase_sublist (a := v) (l := l.displaceable))
  rw [← displace_eq] at hthinned
  refine hthinned.entered ?_ hbody htakes fun hr => ?_
  · have hlen := congrArg List.length (fixedHead_append l)
    have hpos := List.length_pos_of_mem hv
    have hshort := h.short
    rw [List.length_append] at hlen
    rw [displace_eq, List.length_append, List.length_erase_of_mem hv]
    omega
  · by_contra hheld
    have := holds_displace (by simpa using hheld : (l.displace v).holds r = true)
    rw [hnew hr] at this
    cases this

/-- The fixed head leaves (R176, R177, R179). -/
theorem dropped (h : LineFits phase own l) (hc : l.contention ≠ .unfixed) : LineFits phase own l.dropHead := by
  have hsub := List.tail_sublist l.queue
  have hordered := h.ordered
  rw [displaceable_eq, if_neg hc] at hordered
  exact {
    short := hsub.length_le.trans h.short
    ordered := hordered
    numbered := fun q hq => h.numbered q (hsub.subset hq)
    once := fun r hr => (hsub.countP_le).trans (h.once r hr)
    bodies := fun q hq => h.bodies q (hsub.subset hq)
    contention := trivial
    head := fun hc => absurd rfl hc
    following := fun hf => by cases hf
    taken := fun q hq => h.taken q (hsub.subset hq)
    counted := h.counted }

/-- The fixed head leaves, and its follow-on enters the freed slot (R170, R176, R177). -/
theorem followed (h : LineFits phase own l) {e a units : Nat} {n : Notice} {q : Queued} {rest : List Queued}
    (hc : l.contention = .fixed e a (.sending n units)) (hq : l.queue = q :: rest) {follow : Bool}
    (hfollow : follow = true → l.followOn = true) : LineFits phase own (l.dropHead.followOnEnters q.request follow) := by
  have hdropped := h.dropped (by simp [hc])
  have hdrop : l.dropHead.queue = rest := by simp [LineInterface.dropHead, hq]
  cases follow with
  | false => exact hdropped
  | true =>
    have hkind : q.request = .claim ∨ q.request = .presence ∨ q.request = .warmth := by
      simpa [LineInterface.sendingRequest, hc, hq] using h.following (hfollow rfl)
    have honce : heldOnce q.request = true := by rcases hkind with e | e | e <;> rw [e] <;> rfl
    have hbody : requestSound q.request := by rcases hkind with e | e | e <;> rw [e] <;> trivial
    refine hdropped.entered ?_ hbody (h.taken q (by simp [hq])) fun _ => ?_
    · have hshort := h.short
      rw [hq, List.length_cons] at hshort
      rw [hdrop]
      omega
    · have hcount := h.once _ honce
      rw [hq, List.countP_cons_of_pos (by simp)] at hcount
      rw [LineInterface.holds, hdrop]
      simpa using List.countP_eq_zero.mp (by omega : rest.countP (fun x => decide (x.request = q.request)) = 0)

/-- A request not being sent leaves, from behind the head (R179). -/
theorem without (h : LineFits phase own l) (r : Request)
    (hhead : l.contention = .unfixed ∨ ∃ q ∈ l.queue.head?, q.request ≠ r) :
    LineFits phase own { l with queue := l.queue.filter (fun q => decide (q.request ≠ r)) } := by
  have hkept : l.fixedHead.filter (fun q => decide (q.request ≠ r)) = l.fixedHead := by
    unfold LineInterface.fixedHead
    split
    · rfl
    · rename_i hc
      obtain ⟨q, hq, hr⟩ := hhead.resolve_left hc
      obtain ⟨rest, hq⟩ : ∃ rest, l.queue = q :: rest := List.head?_eq_some_iff.mp hq
      simp [hq, hr]
  have hthinned := h.thinned (List.filter_sublist (p := fun q => decide (q.request ≠ r)) (l := l.displaceable))
  rwa [← congrArg (· ++ _) hkept, ← List.filter_append, fixedHead_append] at hthinned

/-- The notice of this node goes on (R174). -/
theorem sentOn (h : LineFits phase own l) {e a units : Nat} {n : Notice} (hc : l.contention = .fixed e a (.sending n units))
    (left : Nat) (level : LineLevel) :
    LineFits phase own { l with contention := .fixed e a (.sending n left), level := level } := by
  obtain ⟨q, rest, hq⟩ := List.exists_cons_of_ne_nil (h.head (by simp [hc]))
  have hordered := h.ordered
  have hcontention := h.contention
  have hfollowing := h.following
  rw [displaceable_eq, if_neg (by simp [hc])] at hordered
  rw [hc] at hcontention
  rw [sendingRequest_of_sending hc hq] at hfollowing
  exact { h with
    ordered := hordered
    contention := hcontention
    head := fun _ => h.head (by simp [hc])
    following := by simpa only [LineInterface.sendingRequest, hq] using hfollowing }

/-- A cycle of the line counts its times (R162, R173, R177). -/
theorem cycled (h : LineFits phase own l) : LineFits phase own l.cycle := by
  have hcontention := h.contention
  unfold LineInterface.cycle
  split
  · rename_i e a units hc
    rw [hc] at hcontention
    split
    · exact h.waited hc (by simp) (head' := .counting (units - 3)) hcontention _
    · exact h.congr _ _ _
  · rename_i e a n units hc
    exact h.sentOn hc _ _
  · exact h.congr _ _ _
  · exact h.congr _ _ _
  · exact h.congr _ _ _

end LineFits

end Sys2Proof.Machine

/-! SUPPORT. Operations that keep the line sound: most leave it alone, the others offer requests, withdraw them or count events
(R10 to R17, R46 to R82, R93 to R128, R169 to R182). -/

namespace Sys2Proof.Machine

-- One thread, as above: a thread per theorem exceeds the memory limit of the check.
set_option Elab.async false

/-! ### Steps that keep the line sound -/

/-- From the first state to the second the phase of start-up and the station stay, and a sound line stays sound. -/
structure LineKept (s t : State) : Prop where
  phase : t.phase = s.phase
  station : t.station = s.station
  line : LineFits s.phase s.station s.line → LineFits s.phase s.station t.line

namespace LineKept

variable {s t u : State}

theorem refl (s : State) : LineKept s s := ⟨rfl, rfl, id⟩

theorem trans (h : LineKept s t) (k : LineKept t u) : LineKept s u := by
  obtain ⟨hphase, hstation, hline⟩ := h
  obtain ⟨kphase, kstation, kline⟩ := k
  rw [hphase, hstation] at kline
  exact ⟨kphase.trans hphase, kstation.trans hstation, kline ∘ hline⟩

theorem sound (h : LineKept s t) (hs : s.LineSound) : t.LineSound := by
  rw [lineSound_iff, h.phase, h.station]
  exact h.line ((lineSound_iff s).mp hs)

/-- What names the station is the identity page. -/
theorem of_station (hstation : t.station = s.station) (h : t.phase = s.phase ∧ t.line = s.line := by simp) :
    LineKept s t := by
  obtain ⟨hphase, hline⟩ := h
  exact ⟨hphase, hstation, fun hl => hline ▸ hl⟩

/-- Only what stands outside the line has changed. Most operations of the part are of this kind. -/
theorem of_views (h : t.phase = s.phase ∧ t.line = s.line ∧ t.memory.nv = s.memory.nv := by simp) : LineKept s t := by
  obtain ⟨hphase, hline, hnv⟩ := h
  exact of_station (congrArg Memory.stationId hnv) ⟨hphase, hline⟩

/-- The line alone moves, soundly. -/
theorem of_line {l : LineInterface} (h : LineFits s.phase s.station s.line → LineFits s.phase s.station l) :
    LineKept s (s.withLine l) := ⟨rfl, rfl, h⟩

/-- An event is counted, within 16 bits (R182). -/
theorem count {f : Counters → Counters} (h : ∀ c : Counters, c.Fit → (f c).Fit) : LineKept s (s.count f) :=
  ⟨rfl, rfl, fun hl => hl.count (h _ hl.counted)⟩

theorem foldl {α : Type} {f : State → α → State} (h : ∀ s a, LineKept s (f s a)) (l : List α) (s : State) :
    LineKept s (l.foldl f s) := by
  induction l generalizing s with
  | nil => exact refl s
  | cons a rest ih => exact (h s a).trans (ih (f s a))

end LineKept

/-- A guarded effect that keeps the line sound where its guard holds keeps it sound. -/
theorem ite_lineKept {p : Prop} [Decidable p] {s t : State} (h : p → LineKept s t) : LineKept s (if p then t else s) := by
  split
  · rename_i hp; exact h hp
  · exact .refl s

theorem onExpiry_lineKept {effect : State → State} {s : State} {timer : Timer}
    (h : timer.isSome = true → LineKept s (effect s)) : LineKept s (onExpiry timer effect s) := by
  rcases onExpiry_cases timer effect s with ⟨hruns, e⟩ | ⟨-, e⟩ <;> rw [e]
  · exact h hruns
  · exact .refl s

/-! ### The transmit queue (R169 to R173, R179) -/

theorem fixHead_lineKept (s : State) : LineKept s (fixHead s) := by
  rcases fixHead_cases s with h | ⟨hc, hq, -, h⟩ <;> rw [h]
  · exact .refl s
  · exact ⟨rfl, rfl, fun hl => hl.fixed hc hq _⟩

/-- A request offered leaves the line sound: it is a second one of no kind held once, and displaces at most one. -/
theorem offer_lineKept {r : Request} (hbody : requestSound r) (s : State) : LineKept s (offer r s) := by
  rcases offer_cases r s with ⟨-, h⟩ | ⟨honce, -, hsending, hkind, h⟩ | ⟨-, -, h⟩ | ⟨htakes, hnew, h⟩ <;> rw [h]
  · exact .refl s
  · refine .of_line fun hl => { hl with following := fun _ => ?_ }
    have hsame : ({ s.line with followOn := true } : LineInterface).sendingRequest = some r := hsending
    cases r <;> simp_all [heldOnce]
  · exact .refl s
  · have hcounted : LineKept s (s.count (fun c => { c with queueRefusals := bump c.queueRefusals })) :=
      .count fun _ hc => { hc with queueRefusals := bump_le hc.queueRefusals }
    rcases enterOrDisplace_cases r s with ⟨hroom, h⟩ | ⟨-, ⟨v, hv, h⟩ | ⟨-, h⟩⟩ <;> rw [h]
    · have hentered : LineKept s (s.withLine (s.line.enter r)) := .of_line fun hl => hl.entered hroom hbody htakes hnew
      exact hentered.trans (fixHead_lineKept _)
    · refine LineKept.trans (hcounted.trans (.of_line fun hl => ?_)) (fixHead_lineKept _)
      exact hl.displaced (victim_some hv).1 hbody htakes hnew
    · exact hcounted

/-- A withdrawal takes a follow-on, the head, or a request behind it (R179). -/
theorem withdraw_lineKept (r : Request) (s : State) : LineKept s (withdraw r s) := by
  by_cases hsend : s.line.sendingRequest = some r
  · rw [withdraw_of_sending hsend]
    exact .of_line fun hl => { hl with following := fun hf => by cases hf }
  cases hc : s.line.contention with
  | unfixed =>
    rw [withdraw_of_pending hsend (.inl hc)]
    exact .of_line fun hl => hl.without r (.inl hc)
  | fixed e a head =>
    cases hq : s.line.queue with
    | nil => exact ⟨by simp, congrArg Memory.stationId (by simp), fun hl => absurd hq (hl.head (by simp [hc]))⟩
    | cons q rest =>
      by_cases hr : q.request = r
      · have hleft : withdraw r s = fixHead (s.withLine s.line.dropHead) := by
          rw [withdraw_of_head hsend hc hq hr]
          simp [LineInterface.dropHead, hq, State.withLine]
        have hdropped : LineKept s (s.withLine s.line.dropHead) := .of_line fun hl => hl.dropped (by simp [hc])
        rw [hleft]
        exact hdropped.trans (fixHead_lineKept _)
      · have hstays : ∃ x ∈ s.line.queue.head?, x.request ≠ r := ⟨q, by simp [hq], hr⟩
        rw [withdraw_of_pending hsend (.inr hstays)]
        exact .of_line fun hl => hl.without r (.inr hstays)

/-! ### The Probe Scheduler (R51 to R55) -/

theorem queueingDecision_lineKept {s u : State}
    (h : ∀ wait retry, LineKept s (u.withSched { u.sched with wait := wait, retry := retry })) :
    LineKept s (queueingDecision u) := by
  obtain ⟨wait, retry, -, e | e⟩ := queueingDecision_cases u <;> rw [e]
  · exact h _ _
  · exact (h _ _).trans (offer_lineKept (r := .callJoin) trivial _)

theorem becomeWanting_lineKept (s : State) : LineKept s (becomeWanting s) := queueingDecision_lineKept fun _ _ => .of_views

theorem retryDelay_lineKept (s : State) : LineKept s (queueingDecision (s.withSched { s.sched with retry := none })) :=
  queueingDecision_lineKept fun _ _ => .of_views

theorem giveUpTurn_lineKept (s : State) : LineKept s (giveUpTurn s) := by
  have hmissed (x : State) :
      LineKept x (restWithNewProbe (x.count (fun c => { c with missedTurns := bump c.missedTurns }))) := by
    have hcounted : LineKept x (x.count (fun c => { c with missedTurns := bump c.missedTurns })) :=
      .count fun _ hc => { hc with missedTurns := bump_le hc.missedTurns }
    exact hcounted.trans .of_views
  unfold giveUpTurn
  split
  · exact (withdraw_lineKept .callJoin s).trans (hmissed _)
  · exact hmissed s

/-! ### Lamp, zone and election: a PRESENCE or a CLAIM is offered (R93 to R128) -/

theorem localPresence_lineKept (s : State) : LineKept s (localPresence s) := by
  have present (x : State) : LineKept x (zonePresence x) := .of_views
  unfold localPresence
  split
  · exact (offer_lineKept (r := .presence) trivial s).trans (present _)
  · exact present s

theorem zoneChange_lineKept (root : Station) (save : Bool) (s : State) : LineKept s (zoneChange root save s) := by
  obtain ⟨lit, hlit, e⟩ := zoneChange_cases root save s
  have hoffered : LineKept s lit := by
    rcases hlit with rfl | rfl
    · exact .of_views
    · exact LineKept.trans .of_views (offer_lineKept (r := .presence) trivial _)
  rw [e]
  split <;> exact hoffered.trans .of_views

theorem announcementCheck_lineKept (s : State) : LineKept s (announcementCheck s) := by
  rcases announcementCheck_cases s with ⟨-, -, -, h⟩ | h <;> rw [h]
  · exact offer_lineKept (r := .claim) trivial s
  · exact .refl s

theorem derive_lineKept (s : State) : LineKept s (derive s) := by
  have htaken (c : Candidate) : LineKept s (takeDerived c s) := by
    rw [takeDerived_eq]
    refine LineKept.trans (.of_views ?_) (announcementCheck_lineKept _)
    unfold State.holding
    split <;> simp
  rcases derive_cases s with ⟨-, h⟩ | ⟨-, -, -, h⟩ | ⟨-, -, h⟩ <;> rw [h]
  · exact .refl s
  · exact .refl s
  · exact htaken _

theorem firstDerivation_lineKept (s : State) : LineKept s (firstDerivation s) := by
  rw [firstDerivation_eq]
  refine LineKept.trans (.of_views ?_) (announcementCheck_lineKept _)
  unfold State.firstHolding
  split <;> simp

theorem ageRoots_lineKept (s : State) : LineKept s (ageRoots s) := by
  refine LineKept.trans .of_views (LineKept.foldl (fun x i => ?_) _ _)
  rcases ageOutRoot_cases x i with ⟨-, h⟩ | ⟨_, -, -, -, h⟩ <;> rw [h]
  · exact .refl x
  · exact LineKept.trans (t := x.withoutRoot i) (.of_views ⟨rfl, rfl, rfl⟩) (derive_lineKept _)

/-! ### The Neighbour Table: link events, shifts and overflows (R61 to R82) -/

theorem evaluateSlot_lineKept (i : Nat) (s : State) : LineKept s (evaluateSlot i s) := by
  rcases evaluateSlot_cases i s with h | ⟨e, link, -, -, -, h | h⟩ <;> rw [h]
  · exact .refl s
  · exact .of_views
  · exact LineKept.trans .of_views (derive_lineKept _)

theorem takeShift_lineKept (s : State) : LineKept s (takeShift s) := by
  rcases takeShift_cases s with h | h <;> rw [h]
  · exact .of_views
  · exact LineKept.trans .of_views (offer_lineKept (r := .stir 0x01) trivial _)

theorem storeSeen_lineKept (i k : Nat) (s : State) : LineKept s (storeSeen i k s) := by
  unfold storeSeen
  split
  · exact .refl s
  · dsimp only
    refine LineKept.trans ?_ (evaluateSlot_lineKept i _)
    split
    · exact LineKept.trans .of_views (takeShift_lineKept _)
    · exact .of_views

theorem storeTold_lineKept (i v : Nat) (s : State) : LineKept s (storeTold i v s) := by
  unfold storeTold
  split
  · exact .refl s
  · exact LineKept.trans .of_views (evaluateSlot_lineKept i _)

theorem admission_lineKept (station : Station) (half : MeasuredHalf) (v : Nat) (s : State) :
    LineKept s (admission station half v s) := by
  rcases admission_cases station half v s with h | ⟨i, -, -, h⟩ | h <;> rw [h]
  · exact .refl s
  · exact .of_views
  · exact .count fun _ hc => { hc with tableOverflows := bump_le hc.tableOverflows }

theorem takeResult_lineKept (s : State) (r : ProbeResult) : LineKept s (takeResult s r) := by
  unfold takeResult
  split
  · split
    · exact storeSeen_lineKept _ _ s
    · exact admission_lineKept _ _ _ s
  · exact .refl s

theorem takeTally_lineKept (sender : Station) (items : List (Station × Half)) (s : State) :
    LineKept s (takeTally sender items s) := by
  unfold takeTally
  split
  · exact .refl s
  · refine .foldl (fun x item => ?_) items s
    unfold takeTallyItem
    split
    · split
      · exact storeTold_lineKept _ _ x
      · exact admission_lineKept _ _ _ x
    · exact .refl x

theorem ageTable_lineKept (s : State) : LineKept s (ageTable s) := by
  unfold ageTable
  split
  · exact .refl s
  · refine LineKept.trans .of_views (LineKept.foldl (fun x i => ?_) _ _)
    unfold ageOutEntry
    split
    · refine ite_lineKept fun _ => ?_
      split
      · exact LineKept.trans .of_views (derive_lineKept _)
      · exact .of_views
    · exact .refl x

theorem takeClaim_lineKept (sender : Station) (c : Claim) (values : Option (Half × Byte)) (s : State) :
    LineKept s (takeClaim sender c values s) := by
  have hderived (p : Prop) [Decidable p] (x : State) : LineKept x (if p then derive x else x) :=
    ite_lineKept fun _ => derive_lineKept x
  unfold takeClaim
  exact LineKept.trans .of_views (hderived _ _)

theorem emptyTable_lineKept (s : State) : LineKept s (emptyTable s) := by
  refine .foldl (fun x i => ?_) _ s
  rcases clearEntry_cases x i with ⟨-, h⟩ | ⟨_, -, ⟨-, h⟩ | ⟨-, h⟩⟩ <;> rw [h]
  · exact .refl x
  · exact .of_views
  · exact LineKept.trans .of_views (derive_lineKept _)

/-! ### Service notices (R192, R196) -/

/-- The content of a page fits an ANSWER (R165, R197). -/
theorem takeAsk_lineKept (target : Station) (page : Byte) (s : State) : LineKept s (takeAsk target page s) := by
  refine ite_lineKept fun _ => offer_lineKept (r := .answer _ _) ?_ s
  simp only [requestSound, State.pageContent_length]
  split_ifs <;> omega

theorem takeForget_lineKept (target : Station) (s : State) : LineKept s (takeForget target s) := by
  have hzone (x : State) : LineKept x (forgetZone x) := by
    rcases forgetZone_cases x with ⟨-, e⟩ | ⟨-, e⟩ <;> rw [e]
    · exact .of_views
    · exact LineKept.trans .of_views (zoneChange_lineKept _ _ _)
  refine ite_lineKept fun _ => ?_
  exact anyOrder_keeps (P := LineKept s) (fun x hx => hx.trans (emptyTable_lineKept x)) (fun x hx => hx.trans (hzone x))
    (fun x hx => hx.trans .of_views) (fun x n hx => hx.trans .of_views) .of_views

/-! ### The round view (R10 to R17) -/

theorem markDisordered_lineKept (s : State) : LineKept s (markDisordered s) := by
  rcases markDisordered_cases s with ⟨-, h⟩ | ⟨-, h⟩ <;> rw [h]
  · exact .refl s
  · refine LineKept.trans (t := s.withRound { s.round with disordered := true }) .of_views (.count ?_)
    exact fun _ hc => { hc with disorderedRounds := bump_le hc.disorderedRounds }

theorem takeCall_lineKept (sender : Station) (depth : Nat) (s : State) : LineKept s (takeCall sender depth s) := by
  unfold takeCall
  cases s.round.phase with
  | none =>
    dsimp only
    split
    · exact .of_views
    · exact .of_views
  | opening => exact markDisordered_lineKept s
  | chips => exact (markDisordered_lineKept s).trans .of_views
  | settle => exact .refl s

theorem takeJoin_lineKept (sender : Station) (depth position : Nat) (s : State) :
    LineKept s (takeJoin sender depth position s) := by
  rcases takeJoin_cases sender depth position s with ⟨-, h⟩ | ⟨-, h⟩ | ⟨-, -, joined, rfl, h⟩ <;> rw [h]
  · exact .refl s
  · exact markDisordered_lineKept s
  · split
    · exact .of_views
    · exact .of_views

theorem judged_lineKept (self : Option Finding) (judgement : Judgement) (s : State) : LineKept s (s.judged self judgement) := by
  refine ⟨rfl, rfl, fun hl => hl.count ?_⟩
  have hc := hl.counted
  cases judgement with
  | valid => exact hc
  | clipped => exact { hc with clippedRounds := bump_le hc.clippedRounds }
  | noisy => exact { hc with noisyRounds := bump_le hc.noisyRounds }

/-- The TALLY told is of the results of a round, six at most (R79, R165). -/
theorem deliverResults_lineKept {s : State}
    (hfew : ∀ results judgement, s.sense.round = .ready results judgement → results.length ≤ 6) :
    LineKept s (deliverResults s) := by
  cases hr : s.sense.round with
  | idle | sampling =>
    simp only [deliverResults, hr]
    exact .of_views
  | ready results judgement =>
    have htaken : LineKept s (s.taken results judgement) :=
      (judged_lineKept _ judgement s).trans (LineKept.foldl takeResult_lineKept _ _)
    rw [deliverResults_ready hr]
    split
    · exact htaken
    · rename_i htold
      have hlen := (List.length_filterMap_le (s.taken results judgement).tallyItem results).trans (hfew _ _ hr)
      exact htaken.trans (offer_lineKept (r := .tally _) ⟨List.length_pos_iff.mpr (not_or.mp htold).2, hlen⟩ _)

theorem closeRound_lineKept {s : State} (hs : s.SenseSound) : LineKept s (closeRound s) := by
  have hclose (x : State) : LineKept x (schedClose x) := .of_views
  have hfew : ∀ results judgement, s.sense.round = .ready results judgement → results.length ≤ 6 := by
    intro results judgement hr
    have hround := hs.round
    rw [hr] at hround
    obtain ⟨-, -, hlen, -⟩ := hround
    exact hlen
  obtain ⟨a, ha, h⟩ := eitherOrder_cases deliverResults schedClose s
  have hboth : LineKept s a := by
    rcases ha with rfl | rfl
    · exact (deliverResults_lineKept hfew).trans (hclose _)
    · exact (hclose s).trans (deliverResults_lineKept (by simpa using hfew))
  unfold closeRound
  rcases h with h | h <;> rw [h]
  · exact hboth.trans .of_views
  · exact hboth.trans .of_views

/-! ### Notices taken (R166 to R168) -/

theorem deliver_lineKept (n : Notice) (s : State) : LineKept s (deliver n s) := by
  obtain ⟨sender, body⟩ := n
  cases body with
  | call d => exact takeCall_lineKept sender d.toNat s
  | join d p => exact takeJoin_lineKept sender d.toNat p.toNat s
  | tally items => exact takeTally_lineKept sender items s
  | stir cause => exact .of_views (t := takeStir sender s)
  | survey minutes => exact .of_views (t := takeSurvey minutes s)
  | claim root hops generation values => exact takeClaim_lineKept sender _ values s
  | presence zone => exact .of_views (t := takePresence zone s)
  | warmth zone temperature => exact .of_views (t := takeWarmth sender zone temperature.toInt s)
  | ask target page => exact takeAsk_lineKept target page s
  | answer page content => exact .refl s
  | set target item value =>
    exact ite_lineKept (t := saveRequest (setItem item.toNat value.toInt s)) fun _ => .of_views
  | forget target => exact takeForget_lineKept target s

theorem applyVerdict_lineKept (v : Verdict) (s : State) : LineKept s (applyVerdict v s) := by
  rcases applyVerdict_cases v s with ⟨-, e⟩ | ⟨-, e⟩ | ⟨n, -, e⟩ <;> rw [e]
  · exact .count fun _ hc => { hc with badNotices := bump_le hc.badNotices }
  · exact .refl s
  · exact deliver_lineKept n s

theorem withLevel_lineKept (level : LineLevel) (s : State) : LineKept s (s.withLine { s.line with level := level }) :=
  .of_line fun hl => hl.congr level _ _

theorem lineIdleThree_lineKept (s : State) : LineKept s (lineIdleThree s) := by
  unfold lineIdleThree
  split
  · exact .refl s
  · exact withLevel_lineKept _ s

theorem lineIdleFour_lineKept (s : State) : LineKept s (lineIdleFour s) := by
  unfold lineIdleFour
  split
  · exact .refl s
  · exact withLevel_lineKept _ s

theorem receive_lineKept (n : Notice) (s : State) : LineKept s (receive n s) :=
  ite_lineKept fun _ => (lineIdleThree_lineKept s).trans (applyVerdict_lineKept _ _)

theorem receiveBytes_lineKept (raw : Collected) (s : State) : LineKept s (receiveBytes raw s) := by
  unfold receiveBytes
  split
  · exact (lineIdleThree_lineKept s).trans (applyVerdict_lineKept _ _)
  · exact ite_lineKept fun _ => (withLevel_lineKept _ s).trans (applyVerdict_lineKept _ _)

end Sys2Proof.Machine

/-! SUPPORT. The line-win, the loss and the completion of the head, start-up and the part's own time keep the line sound, and so
does every command (R162, R169 to R182, R195). -/

namespace Sys2Proof.Machine

-- One thread, as above: a thread per theorem exceeds the memory limit of the check.
set_option Elab.async false

/-! ### Line-win (R19, R99, R147, R174) -/

/-- What this node sends of its own passes the judgement every station makes of it. -/
theorem own_passes {s : State} (hid : s.NodeIdentity) {body : Body} (hfits : body.fits = true)
    (hrange : bodyInRange s.station body = true) : judgeNotice ⟨s.station, body⟩ = .passes ⟨s.station, body⟩ :=
  judgeNotice_of_inRange hfits ⟨((isNode_iff _).mp hid).1, hrange⟩

/-- The straps name a depth that a CALL or a JOIN may carry. -/
theorem depthByte_depth (s : State) : depthByte (BitVec.ofNat 8 s.depth) = true := by
  unfold State.depth
  split <;> decide

/-- The CALL or JOIN of a line-win is in range: a JOIN takes position 2 to 6. -/
theorem callJoin_passes {s : State} (hs : s.Sound) {body : Body} (h : s.callJoinDecision = .sent body) :
    judgeNotice ⟨s.station, body⟩ = .passes ⟨s.station, body⟩ := by
  have htool := ((isNode_iff _).mp hs.identity).2
  have hdepth := depthByte_depth s
  unfold State.callJoinDecision at h
  split at h
  · cases h
  · split at h
    · cases h
      exact own_passes hs.identity rfl (by simp [bodyInRange, hdepth, htool])
    · rename_i hp
      split at h
      · rename_i hroom
        cases h
        obtain ⟨-, -, -, -, -, hsome, -⟩ := hs.round
        have hpos := List.length_pos_iff.mpr (hsome (by simp [hp]))
        have hplace : (s.round.probers.length + 1) % 256 = s.round.probers.length + 1 := Nat.mod_eq_of_lt (by omega)
        refine own_passes hs.identity rfl ?_
        simp only [bodyInRange, hdepth, htool, BitVec.toNat_ofNat, hplace, Bool.true_and, Bool.not_false, Bool.and_true,
          Bool.and_eq_true, decide_eq_true_eq]
        omega
      · cases h
    · cases h
    · cases h

/-- The CLAIM of a line-win is in range: it carries the operating values exactly at hops 0, which only the own root has. -/
theorem claimBody_passes {s : State} (hs : s.Sound) : judgeNotice ⟨s.station, s.claimBody⟩ = .passes ⟨s.station, s.claimBody⟩ := by
  have htool := ((isNode_iff _).mp hs.identity).2
  obtain ⟨-, -, -, hhops, -, -, hzero, -⟩ := hs.election
  have hbyte : s.election.derived.hops % 256 = s.election.derived.hops := Nat.mod_eq_of_lt (by omega)
  have hbyteZero : BitVec.ofNat 8 s.election.derived.hops = 0#8 ↔ s.election.derived.hops = 0 := by
    rw [← BitVec.toNat_inj, BitVec.toNat_ofNat]
    simp [hbyte]
  unfold State.claimBody
  by_cases h : s.election.derived.hops = 0
  · exact own_passes hs.identity (by simp [h, Body.fits, bodyBytes, stationBytes, halfBytes])
      (by simp [bodyInRange, h, htool, hzero.mp h])
  · exact own_passes hs.identity (by simp [h, Body.fits, bodyBytes, stationBytes])
      (by simp [bodyInRange, hbyteZero, hbyte, h, htool, hhops])

/-- The bodies fixed when their requests were queued (R169). -/
theorem queued_passes {s : State} (hs : s.Sound) :
    (∀ items, requestSound (.tally items) → judgeNotice ⟨s.station, .tally items⟩ = .passes ⟨s.station, .tally items⟩) ∧
      ∀ page content, requestSound (.answer page content) →
        judgeNotice ⟨s.station, .answer page content⟩ = .passes ⟨s.station, .answer page content⟩ := by
  refine ⟨fun items ⟨hsome, hfew⟩ => ?_, fun page content (hlen : content.length ≤ 36) => ?_⟩
  · exact own_passes hs.identity (by simp [Body.fits, bodyBytes, itemBytes_length]; omega) (by simp [bodyInRange]; omega)
  · exact own_passes hs.identity (by simp [Body.fits, bodyBytes]; omega) (by simpa [bodyInRange] using hlen)

section Head

variable {s : State} {e a units : Nat} {q : Queued} {rest : List Queued}

theorem startSending_lineKept (hc : s.line.contention = .fixed e a (.counting units)) {body : Body}
    (hpasses : judgeNotice ⟨s.station, body⟩ = .passes ⟨s.station, body⟩) : LineKept s (startSending e a body s) := by
  refine .of_line fun hl => hl.turned hc ?_ _
  have hcontention := hl.contention
  rw [hc] at hcontention
  obtain ⟨hfew, hexponent⟩ := hcontention
  exact ⟨by omega, by omega, by omega, rfl, hpasses⟩

theorem winLine_lineKept (hs : s.Sound) (hc : s.line.contention = .fixed e a (.counting units)) (hq : s.line.queue = q :: rest) :
    LineKept s (winLine e a q.request s) := by
  have hbody := ((lineSound_iff s).mp hs.line).bodies q (by simp [hq])
  obtain ⟨htally, hanswer⟩ := queued_passes hs
  have hdropped : LineKept s (s.withLine s.line.dropHead) := .of_line fun hl => hl.dropped (by simp [hc])
  unfold winLine
  split
  · split
    · rename_i body hd
      exact startSending_lineKept hc (callJoin_passes hs hd)
    · dsimp only
      refine LineKept.trans ?_ (fixHead_lineKept _)
      split
      · exact hdropped.trans .of_views
      · exact hdropped
  · exact startSending_lineKept hc (claimBody_passes hs)
  · exact startSending_lineKept hc (own_passes hs.identity rfl rfl)
  · split
    · exact startSending_lineKept hc (own_passes hs.identity rfl rfl)
    · exact hdropped.trans (fixHead_lineKept _)
  · rename_i hr
    exact startSending_lineKept hc (htally _ (hr ▸ hbody))
  · exact startSending_lineKept hc (own_passes hs.identity rfl rfl)
  · rename_i hr
    exact startSending_lineKept hc (hanswer _ _ (hr ▸ hbody))

/-! ### Loss and completion (R170, R175 to R178) -/

variable {n : Notice} (hc : s.line.contention = .fixed e a (.sending n units)) (hq : s.line.queue = q :: rest)
include hc hq

theorem dropRequest_lineKept : LineKept s (dropRequest q.request s) := by
  have hdropped : LineKept s (s.withLine
      { s.line.dropHead.followOnEnters q.request s.line.followOn with level := .busy }) :=
    .of_line fun hl => (hl.followed hc hq id).congr _ _ _
  have hcounted (x : State) : LineKept x (x.count (fun c => { c with lineDrops := bump c.lineDrops })) :=
    .count fun _ hc => { hc with lineDrops := bump_le hc.lineDrops }
  unfold dropRequest
  dsimp only
  split
  · exact (hdropped.trans (hcounted _)).trans .of_views
  · exact hdropped.trans (hcounted _)

theorem loseAttempt_lineKept : LineKept s (loseAttempt e a q.request s) := by
  rcases loseAttempt_cases e a q.request s with ⟨-, h⟩ | ⟨-, -, h⟩ | ⟨hfew, -, h⟩ <;> rw [h]
  · exact dropRequest_lineKept hc hq
  · exact .of_line fun hl => (hl.dropped (by simp [hc])).congr _ _ _
  · refine .of_line fun hl => hl.turned hc ?_ _
    have hcontention := hl.contention
    rw [hc] at hcontention
    obtain ⟨hsome, -, hexponent, -⟩ := hcontention
    exact ⟨hsome, by omega, by omega⟩

theorem completeNotice_lineKept : LineKept s (completeNotice n q.request s) := by
  have hreport (x : State) : LineKept x (reportCompletion n x) := by
    unfold reportCompletion
    split <;> exact .of_views
  have hleft : LineKept s (s.withLine
      { s.line.dropHead.followOnEnters q.request (s.line.followOn && decide (q.request ≠ .claim)) with
        level := .idle (3 * byteTime) }) :=
    .of_line fun hl => (hl.followed hc hq fun h => (Bool.and_eq_true_iff.mp h).1).congr _ _ _
  unfold completeNotice
  dsimp only
  split
  · exact (hleft.trans (hreport _)).trans (deliver_lineKept n _)
  · exact hleft.trans (hreport _)

end Head

/-! ### The line's own events (R163, R172, R173, R176) -/

theorem pauseBackoff_lineKept (s : State) : LineKept s (pauseBackoff s) := by
  unfold pauseBackoff
  dsimp only
  split
  · rename_i e a units hc
    refine .of_line fun hl => ?_
    have hcontention := hl.contention
    rw [hc] at hcontention
    exact hl.waited hc (by simp) (head' := .paused units) hcontention _
  · exact withLevel_lineKept _ s

theorem resumeBackoff_lineKept (s : State) : LineKept s (resumeBackoff s) := by
  unfold resumeBackoff
  split
  · rename_i e a units hc
    refine .of_line fun hl => ?_
    have hcontention := hl.contention
    rw [hc] at hcontention
    exact hl.waited hc (by simp) (head' := .counting units) hcontention s.line.level
  · rename_i e a hc
    refine ⟨rfl, rfl, fun hl => ?_⟩
    have hcontention := hl.contention
    rw [hc] at hcontention
    obtain ⟨-, hfew, hexponent⟩ := hcontention
    exact hl.waited hc (by simp) (head' := .counting (s.backoffUnits e)) ⟨hfew, hexponent⟩ s.line.level
  · exact .refl s

theorem framerReady_lineKept (s : State) : LineKept s (lineIdleThree (s.withLine { s.line with framer := .ready })) :=
  LineKept.trans (.of_line fun hl => hl.congr _ _ _) (lineIdleThree_lineKept _)

/-- A cycle of the crystal passes on the line, and neither start-up nor the pages move. -/
theorem crystalCycle_lineKept (s : State) : LineKept s (crystalCycle s) := by
  have hviews : (crystalCycle s).phase = s.phase ∧ (crystalCycle s).memory.nv = s.memory.nv := by
    unfold crystalCycle freeTick
    dsimp only
    split
    · exact ⟨rfl, rfl⟩
    · split <;> exact ⟨rfl, rfl⟩
  obtain ⟨t, hline⟩ := crystalCycle_line s
  refine ⟨hviews.1, congrArg Memory.stationId hviews.2, fun hl => ?_⟩
  rw [hline]
  exact hl.cycled.congr _ _ _

/-! ### The slots of a round, the converter and the lamp -/

theorem passGuard_lineKept (s : State) : LineKept s (passGuard s) := by
  have hmarked (x : RoundController) : LineKept s (s.withRound x) := .of_views
  have hwithdrawn (x : RoundController) : LineKept s (schedNotAdmitted (withdraw .callJoin (s.withRound x))) :=
    ((hmarked x).trans (withdraw_lineKept .callJoin _)).trans .of_views
  unfold passGuard
  dsimp only
  split
  · exact hwithdrawn _
  · exact hmarked _

theorem beginChips_lineKept (s : State) : LineKept s (beginChips s) := by
  unfold beginChips
  rcases startSense_cases _ with ⟨-, e⟩ | e <;> rw [e]
  · exact .of_views
  · exact .of_views

theorem signalChip_lineKept (j : Nat) (s : State) : LineKept s (signalChip j s) := by
  unfold signalChip
  exact .of_views

theorem startLight_lineKept (s : State) : LineKept s (startLight s) := .of_views ⟨rfl, rfl, rfl⟩

theorem endLight_lineKept (code : AdcCode) (s : State) : LineKept s (endLight code s) := .of_views ⟨rfl, rfl, rfl⟩

theorem beginSettle_lineKept (s : State) : LineKept s (beginSettle s) := by
  rw [beginSettle_eq]
  exact .of_views ⟨rfl, rfl, rfl⟩

theorem endTemperature_lineKept (b : Burst) (code : AdcCode) (s : State) : LineKept s (endTemperature b code s) := by
  unfold endTemperature
  dsimp only
  split
  · exact .of_views
  · exact .of_views

theorem takeSample_lineKept (isActive : Bool) (s : State) : LineKept s (takeSample isActive s) := by
  have hlit (x : State) (lamp : Lighting) : LineKept x (x.withLight lamp) := .of_views
  have hended (x : State) : LineKept x (endWindow x) := by
    unfold endWindow
    split
    · exact ((hlit _ _).trans (localPresence_lineKept _)).trans (hlit _ _)
    · exact hlit _ _
  unfold takeSample
  generalize (if isActive then s.light.activeCount + 1 else s.light.activeCount) = active
  dsimp only
  split
  · exact (hlit s _).trans (hended _)
  · exact hlit s _

theorem takePulseSample_lineKept (pinHigh : Bool) (s : State) : LineKept s (takePulseSample pinHigh s) := by
  rcases takePulseSample_cases pinHigh s with ⟨-, -, -, h⟩ | ⟨-, h⟩ <;> rw [h]
  · exact LineKept.trans .of_views (localPresence_lineKept _)
  · exact .of_views

/-! ### Start-up (R180, R195) -/

/-- A phase entered in which the queue takes all it took before. -/
theorem LineFits.enters {p p' : StartPhase} {own : Station} {l : LineInterface} (h : LineFits p own l)
    (htakes : ∀ r, takesRequest p r = true → takesRequest p' r = true) : LineFits p' own l :=
  { h with taken := fun q hq => htakes _ (h.taken q hq) }

section StartUp

variable {s : State} (h : LineFits s.phase s.station s.line)
include h

theorem releaseReset_lineSound (hp : s.phase = .held) (pins : Straps) : (releaseReset pins s).LineSound := by
  rw [hp] at h
  exact (lineSound_iff _).mpr (h.enters fun _ hr => by cases hr)

theorem readPages_lineSound (hp : s.phase = .oscillatorWait) : (readPages s).LineSound := by
  rw [hp] at h
  have hstarted : s.holdStarted.LineSound := (lineSound_iff _).mpr (h.enters fun _ hr => by cases hr)
  have hvalues : LineKept s.holdStarted s.holdStarted.recordValuesTaken := .of_views ⟨rfl, rfl, rfl⟩
  rcases readPages_cases s with e | e <;> rw [e]
  · exact hstarted
  · refine (hvalues.trans (LineKept.foldl (fun x link => ?_) _ _)).sound hstarted
    unfold restoreLink
    dsimp only
    split
    · exact .refl x
    · split
      · exact .of_views
      · exact .refl x

theorem startListening_lineSound (hp : s.phase = .restored) : (startListening s).LineSound := by
  rw [hp] at h
  have hlistens := (h.enters (p' := .listenOnly) fun _ hr => by cases hr).congr .busy .awaitingIdle (some (seconds 2))
  have hviews : (startListening s).phase = .listenOnly ∧ (startListening s).memory.nv = s.memory.nv ∧
      (startListening s).line =
        { s.line with level := .busy, framer := .awaitingIdle, listenOnly := some (seconds 2) } := by
    simp [startListening]
  obtain ⟨hphase, hnv, hline⟩ := hviews
  have hstation : (startListening s).station = s.station := congrArg Memory.stationId hnv
  rwa [lineSound_iff, hphase, hstation, hline]

theorem release_lineSound (hp : s.phase = .listenOnly) : (release s).LineSound := by
  rw [hp] at h
  have hreleased : s.released.LineSound :=
    (lineSound_iff _).mpr ((h.enters (p' := .running) fun _ _ => rfl).congr s.line.level s.line.framer none)
  exact (firstDerivation_lineKept _).sound hreleased

end StartUp

/-- The reset values, at any station. -/
theorem afterReset_lineSound (s : State) : (afterReset s).LineSound :=
  (lineSound_iff _).mpr { (lineSound_iff State.reset).mp resetStateIsSound.line with contention := trivial }

/-! ### The commands -/

/-- A command answers a state in which the line is sound. -/
def AnswersLine (r : Result) : Prop := ∃ t, r = .next t ∧ t.LineSound

section Commands

variable {s : State} (hs : s.LineSound)
include hs

theorem State.LineSound.answersKept {t : State} (h : LineKept s t) : AnswersLine (.next t) := ⟨t, rfl, h.sound hs⟩

/-- A command that its state does not fit changes nothing. -/
theorem State.LineSound.answersIf {p : Prop} [Decidable p] {t : State} (h : p → t.LineSound) :
    AnswersLine (.next (if p then t else s)) := by
  refine ⟨_, rfl, ?_⟩
  split
  · rename_i hp; exact h hp
  · exact hs

theorem State.LineSound.answersGuarded {p : Prop} [Decidable p] {t : State} (h : p → LineKept s t) :
    AnswersLine (.next (if p then t else s)) := hs.answersKept (ite_lineKept h)

theorem State.LineSound.answersExpiry {timer : Timer} {effect : State → State}
    (h : timer.isSome = true → LineKept s (effect s)) : AnswersLine (.next (onExpiry timer effect s)) :=
  hs.answersKept (onExpiry_lineKept h)

theorem execOccupancySample_line (pinHigh : Bool) : AnswersLine (execOccupancySample pinHigh s) := by
  have hread (isActive : Bool) : LineKept s (takeSample isActive (readPin pinHigh s)) :=
    LineKept.trans (t := readPin pinHigh s) (.of_views ⟨rfl, rfl, rfl⟩) (takeSample_lineKept isActive _)
  refine hs.answersKept ?_
  split
  · split
    · exact hread _
    · exact hread _
    · exact takePulseSample_lineKept _ s
    · exact .of_views
  · exact .of_views

theorem execFadeTick_line : AnswersLine (execFadeTick s) := by
  refine hs.answersExpiry fun _ => .of_views ?_
  dsimp only
  split <;> simp

theorem execWarmthTimerExpiry_line : AnswersLine (execWarmthTimerExpiry s) := by
  refine hs.answersExpiry fun _ => ?_
  dsimp only
  split
  · exact LineKept.trans .of_views (offer_lineKept (r := .warmth) trivial _)
  · exact .of_views

theorem execTemperatureConversionEnd_line (code : AdcCode) : AnswersLine (execTemperatureConversionEnd code s) := by
  refine hs.answersKept ?_
  split
  · exact ite_lineKept fun _ => endTemperature_lineKept _ code s
  · exact .refl s

/-- The record area changes; the identity page, which names the station, does not. -/
theorem execSaveCompletion_line : AnswersLine (execSaveCompletion s) := by
  refine hs.answersKept ?_
  split
  · have written (z : ZoneMemory) (h : ∀ a, a < 32 → z.nv.read a = s.memory.nv.read a) : LineKept s (s.withMemory z) :=
      .of_station (ProbingKept.of_memory h).station
    exact written _ fun a ha => Memory.read_writeRecord_page0 _ _ a ha
  · exact .refl s

theorem execClearCompletion_line : AnswersLine (execClearCompletion s) := by
  refine hs.answersKept ?_
  split
  · have cleared : ProbingKept s (s.withMemory { s.memory with nv := s.memory.nv.clearRecord, engine := .idle }) :=
      .of_memory fun a ha => Memory.read_clearRecord_page0 s.memory.nv a ha
    exact (LineKept.of_station cleared.station).trans .of_views
  · exact .refl s

theorem execLoss_line : AnswersLine (execLoss s) := by
  refine hs.answersKept ?_
  split
  · rename_i hc hq
    exact loseAttempt_lineKept hc hq
  · exact .refl s

theorem execNoticeCompletion_line : AnswersLine (execNoticeCompletion s) := by
  refine hs.answersKept ?_
  split
  · rename_i hc hq
    exact completeNotice_lineKept hc hq
  · exact .refl s

end Commands

theorem execLineWin_line {s : State} (hs : s.Sound) : AnswersLine (execLineWin s) := by
  refine hs.line.answersKept ?_
  split
  · rename_i hc hq
    exact winLine_lineKept hs hc hq
  · exact .refl s

/-- Every command, from a sound state, answers a state in which the line is sound. -/
theorem exec_answersLine {s : State} (hs : s.Sound) (c : Instr) : AnswersLine (exec c s) := by
  have h := hs.line
  have hfits := (lineSound_iff s).mp h
  cases c with
  | reset => exact ⟨_, rfl, afterReset_lineSound s⟩
  | resetRelease pins => exact h.answersIf fun hp => releaseReset_lineSound hfits hp pins
  | oscillatorWaitEnd => exact h.answersIf fun hp => readPages_lineSound hfits hp
  | startOfListenOnly => exact h.answersIf fun hp => startListening_lineSound hfits hp
  | endOfListenOnly => exact h.answersIf fun hp => release_lineSound hfits hp
  | call | join | tally | stir | survey | claim | presence | warmth | ask | answer | set | forget =>
    exact h.answersKept (receive_lineKept _ s)
  | discardedNotice raw => exact h.answersKept (receiveBytes_lineKept raw s)
  | headFixing => exact h.answersGuarded fun _ => (lineIdleFour_lineKept s).trans (fixHead_lineKept _)
  | lineWin => exact execLineWin_line hs
  | loss => exact execLoss_line h
  | noticeCompletion => exact execNoticeCompletion_line h
  | lineStartBit => exact h.answersGuarded fun _ => pauseBackoff_lineKept s
  | backoffResume => exact h.answersGuarded fun _ => (lineIdleFour_lineKept s).trans (resumeBackoff_lineKept _)
  | framerFirstIdle => exact h.answersGuarded fun _ => framerReady_lineKept s
  | guardStart => exact h.answersGuarded fun _ => passGuard_lineKept s
  | startOfChips => exact h.answersGuarded fun _ => beginChips_lineKept s
  | chipSignal chip => exact h.answersGuarded fun _ => signalChip_lineKept _ s
  | chipSample => exact h.answersGuarded fun _ => startLight_lineKept s
  | lightConversionEnd code => exact h.answersGuarded fun _ => endLight_lineKept code s
  | startOfSettle => exact h.answersGuarded fun _ => beginSettle_lineKept s
  | pwmReload | compareMatch => exact h.answersGuarded fun _ => .of_views
  | roundClose => exact h.answersGuarded fun _ => closeRound_lineKept hs.sense
  | temperatureConversionEnd code => exact execTemperatureConversionEnd_line h code
  | probeTimerExpiry => exact h.answersGuarded fun _ => onExpiry_lineKept fun _ => becomeWanting_lineKept s
  | retryDelayExpiry => exact h.answersGuarded fun _ => onExpiry_lineKept fun _ => retryDelay_lineKept s
  | wantDeadlineExpiry => exact h.answersGuarded fun _ => onExpiry_lineKept fun _ => giveUpTurn_lineKept s
  | agingMinute => exact h.answersExpiry fun _ => LineKept.trans .of_views (ageTable_lineKept _)
  | ageSecond => exact h.answersExpiry fun _ => ageRoots_lineKept s
  | generationTimerExpiry => exact h.answersExpiry fun _ => LineKept.trans .of_views (derive_lineKept _)
  | claimSpacingExpiry => exact h.answersExpiry fun _ => LineKept.trans .of_views (announcementCheck_lineKept _)
  | settleTimerExpiry => exact h.answersExpiry fun _ => LineKept.trans .of_views (zoneChange_lineKept _ _ _)
  | briskTimerExpiry | stirSpacingExpiry | startUpHoldEnd | lockoutExpiry | presenceSpacingExpiry | sampleTimerExpiry
  | rosterSecond | restTimerExpiry | linkHoldOffExpiry => exact h.answersExpiry fun _ => .of_views
  | occupancySample pinHigh => exact execOccupancySample_line h pinHigh
  | risingEdge =>
    exact h.answersGuarded fun _ => (takePulseSample_lineKept false s).trans (takePulseSample_lineKept true _)
  | holdTimerExpiry | graceTimerExpiry | controlStep =>
    exact h.answersGuarded fun _ => onExpiry_lineKept fun _ => .of_views
  | fadeTick => exact execFadeTick_line h
  | readingHoldExpiry => exact h.answersExpiry fun _ => LineKept.trans .of_views (withdraw_lineKept .warmth _)
  | warmthTimerExpiry => exact execWarmthTimerExpiry_line h
  | saveCompletion => exact execSaveCompletion_line h
  | clearCompletion => exact execClearCompletion_line h

/-- So does every step. -/
theorem step_answersLine {s : State} (hs : s.Sound) : AnswersLine (step s) := by
  unfold step stepQueue
  split
  · rename_i c rest _
    exact exec_answersLine (hs.withQueue rest s.free) c
  · rcases idleStep_cases s with ⟨-, h⟩ | ⟨-, -, h⟩ | ⟨c, -, -, h | h⟩ <;> rw [h]
    · exact hs.line.answersKept (.refl s)
    · exact hs.line.answersKept (crystalCycle_lineKept s)
    · exact exec_answersLine hs c
    · exact exec_answersLine (hs.withQueue s.pending (s.free + 1)) c

/-- Settles O59: every command and every cycle of the crystal keeps the line sound. -/
theorem everyStepKeepsTheLineInterface : Obligations.EveryStepKeepsTheLineInterface := by
  intro s t hs hstep
  obtain ⟨u, hu, hsound⟩ := step_answersLine hs
  obtain rfl : u = t := by simpa [hu] using hstep
  exact hsound

end Sys2Proof.Machine

/-! SUPPORT. What an offer makes of the queue: replaced unseen, held as a follow-on, entered at its rank, in place of the last
entered of a higher rank number, or refused (R169 to R172, R180). -/

namespace Sys2Proof.Machine

-- One thread, as above: a thread per theorem exceeds the memory limit of the check.
set_option Elab.async false

/-! ### The head fixed (R172) -/

theorem fixHead_eq {s : State} (hq : s.line.queue ≠ []) :
    fixHead s =
      if s.line.contention = .unfixed ∧ s.line.idleFour = true then
        { s with
          rng := lfsrNext s.rng
          line := { s.line with contention := .fixed 3 0 (.counting (drawFrom (lfsrNext s.rng) 7 * byteTime)) } }
      else s := by
  obtain ⟨q, rest, hq⟩ := List.exists_cons_of_ne_nil hq
  unfold fixHead
  cases hc : s.line.contention with
  | unfixed =>
    simp only [hq, true_and]
    rfl
  | fixed e a head => simp

/-- A request that enters in place of a victim stands behind the same head (R171). -/
theorem enter_displace_queue {l : LineInterface} (hhead : l.contention ≠ .unfixed → l.queue ≠ []) (v : Queued) (r : Request) :
    ((l.displace v).enter r).queue = l.fixedHead ++ insertByRank ⟨r, l.entries⟩ (l.displaceable.erase v) := by
  obtain ⟨hfixed, hbehind, -⟩ := behindHead_parts hhead (l.displaceable.erase v)
  rw [enter_queue, displace_eq, hfixed, hbehind]

/-! ### A request taken (R169, R170, R180) -/

/-- A request the queue does not take now changes nothing. -/
theorem offer_not_taken {r : Request} {s : State} (h : takesRequest s.phase r = false) : offer r s = s := by
  simp [offer, h]

section Taken

variable {r : Request} {s : State} (htakes : takesRequest s.phase r = true)
include htakes

/-- A request of a kind held once replaces its pending one unseen. -/
theorem offer_replaces (honce : heldOnce r = true) (hholds : s.line.holds r = true)
    (h : s.line.sendingRequest ≠ some r ∨ r = .callJoin) : offer r s = s := by
  have hno : ¬ (s.line.sendingRequest = some r ∧ r ≠ .callJoin) := fun ⟨hs, hr⟩ => h.elim (· hs) hr
  simp [offer, htakes, honce, hholds, hno]

/-- A CLAIM, PRESENCE or WARMTH is held as the follow-on of its notice being sent. -/
theorem offer_follows (honce : heldOnce r = true) (hkind : r ≠ .callJoin) (hsending : s.line.sendingRequest = some r) :
    offer r s = { s with line := { s.line with followOn := true } } := by
  simp [offer, htakes, honce, holds_of_sending hsending, hsending, hkind]

variable (hnew : heldOnce r = false ∨ s.line.holds r = false)
include hnew

theorem offer_needs_slot : offer r s = enterOrDisplace r s := by
  have hno : ¬ (heldOnce r = true ∧ s.line.holds r = true) := fun ⟨ho, hh⟩ => by rcases hnew with h | h <;> simp_all
  simp [offer, htakes, hno]

/-- With room the request enters, and may be fixed as head. -/
theorem offer_enters (hroom : s.line.queue.length < 8) : offer r s = fixHead { s with line := s.line.enter r } := by
  rw [offer_needs_slot htakes hnew, enterOrDisplace, if_pos hroom]

/-- Of a full queue a victim gives way, or the offer is refused; the refusal counter advances once (R171). -/
theorem offer_full (hfull : s.line.queue.length = 8) :
    let refused : Counters := { s.line.counters with queueRefusals := bump s.line.counters.queueRefusals }
    (s.line.victim (rank r) = none → offer r s = { s with line := { s.line with counters := refused } }) ∧
      ∀ v, s.line.victim (rank r) = some v →
        (offer r s).line.counters = refused ∧
          (offer r s).line.queue = s.line.fixedHead ++ insertByRank ⟨r, s.line.entries⟩ (s.line.displaceable.erase v) := by
  intro refused
  rw [offer_needs_slot htakes hnew, enterOrDisplace, if_neg (by omega)]
  refine ⟨fun hv => by rw [hv]; rfl, fun v hv => ?_⟩
  have hhead : s.line.contention ≠ .unfixed → s.line.queue ≠ [] := fun _ hnil => by simp [hnil] at hfull
  rw [hv]
  dsimp only
  rw [fixHead_counters, fixHead_queue, enter_displace_queue (l := (s.count _).line) hhead, displace_eq]
  exact ⟨rfl, rfl⟩

end Taken

/-- Settles O40: by the phase, then by what stands in the queue. -/
theorem offerReplacesFollowsOrEnters : Obligations.OfferReplacesFollowsOrEnters := by
  refine ⟨fun r s hrun hanswer => offer_not_taken ?_, fun r s hphase => ?_⟩
  · rw [← Bool.not_eq_true, takesRequest_iff]
    rintro (h | ⟨h, page, content, hr⟩)
    · exact hrun h
    · exact hanswer h page content hr
  have htakes := (takesRequest_iff s.phase r).mpr hphase
  refine ⟨offer_replaces htakes, offer_follows htakes, fun hnew hroom => ?_⟩
  obtain ⟨before, after, hsplit, hinserted, hbefore, hafter⟩ := insertByRank_split ⟨r, s.line.entries⟩ s.line.displaceable
  have hqueue : s.line.queue = s.line.fixedHead ++ before ++ after := by
    rw [List.append_assoc, ← hsplit, fixedHead_append]
  have hentered : s.line.enter r = { s.line with
      queue := s.line.fixedHead ++ before ++ ⟨r, s.line.entries⟩ :: after, entries := s.line.entries + 1 } := by
    rw [(enter_spec s.line r).2, enter_queue, hinserted, List.append_assoc]
  refine ⟨s.line.fixedHead ++ before, after, hqueue, fun q hq => hbefore q ?_, fun hc hsome => ?_, hafter, ?_⟩
  · rw [LineInterface.fixedHead] at hq
    split at hq
    · exact hq
    · exact List.mem_of_mem_drop (by simpa [List.drop_append] using hq)
  · obtain ⟨x, rest, hx⟩ := List.exists_cons_of_ne_nil hsome
    simp [LineInterface.fixedHead, hc, hx]
  · rw [offer_enters htakes hnew hroom, hentered, fixHead_eq (by simp)]
    rfl

/-- A request that enters in place of another takes one place of as many. -/
theorem displaced_perm {l : LineInterface} {v : Queued} (hv : v ∈ l.displaceable) (q : Queued) :
    (l.fixedHead ++ insertByRank q (l.displaceable.erase v)).Perm (q :: l.queue.erase v) := by
  have herase : (l.fixedHead ++ l.displaceable.erase v).Perm (l.queue.erase v) := by
    have hlast : (l.displaceable ++ l.fixedHead).erase v = l.displaceable.erase v ++ l.fixedHead :=
      List.erase_append_left _ hv
    have hswap : (l.displaceable ++ l.fixedHead).Perm l.queue := by
      conv_rhs => rw [← fixedHead_append l]
      exact List.perm_append_comm
    exact List.perm_append_comm.trans (hlast ▸ hswap.erase v)
  exact ((insertByRank_perm q _).append_left _).trans (List.perm_middle.trans (herase.cons q))

theorem displaceable_nonempty {l : LineInterface} (h : 2 ≤ l.queue.length) : ∃ q, q ∈ l.displaceable := by
  refine List.exists_mem_of_ne_nil _ fun hnil => ?_
  rw [displaceable_eq] at hnil
  split at hnil
  · simp [hnil] at h
  · have := congrArg List.length hnil
    rw [List.length_tail, List.length_nil] at this
    omega

/-- CALL/JOIN alone has the best rank. -/
theorem callJoin_of_rank {r : Request} (h : rank r ≤ rank .callJoin) : r = .callJoin := by
  cases r <;> simp_all [rank]

/-- Settles O41: by the victim, if there is one. -/
theorem offerToAFullQueueDisplacesOrIsRefused : Obligations.OfferToAFullQueueDisplacesOrIsRefused := by
  intro r s hs hphase hfull hnew
  have htakes := (takesRequest_iff s.phase r).mpr hphase
  obtain ⟨hrefused, hgiven⟩ := offer_full htakes hnew hfull
  have hmem {v : Queued} (hv : v ∈ s.line.displaceable) : v ∈ s.line.queue := by
    rw [← fixedHead_append s.line]
    exact List.mem_append_right _ hv
  have hqueue {v : Queued} (hv : s.line.victim (rank r) = some v) :
      (offer r s).line.queue.Perm (⟨r, s.line.entries⟩ :: s.line.queue.erase v) := by
    rw [(hgiven v hv).2]
    exact displaced_perm (victim_some hv).1 _
  refine ⟨?_, ?_, fun hall => hrefused (victim_none.mpr hall), fun v hv hk hlast => hqueue (victim_last hv hk hlast), ?_⟩
  · cases hv : s.line.victim (rank r) with
    | none => rw [hrefused hv]
    | some v => exact (hgiven v hv).1
  · cases hv : s.line.victim (rank r) with
    | none => rw [hrefused hv]; exact hfull
    | some v =>
      rw [(hqueue hv).length_eq, List.length_cons, List.length_erase_of_mem (hmem (victim_some hv).1), hfull]
  · rintro rfl
    cases hv : s.line.victim (rank .callJoin) with
    | some v => exact (hqueue hv).any_eq.trans (by simp)
    | none =>
      have hnone := hnew.resolve_left (by decide : heldOnce .callJoin ≠ false)
      obtain ⟨q, hq⟩ := displaceable_nonempty (l := s.line) (by omega)
      exact absurd (callJoin_of_rank (victim_none.mp hv q hq)) (by simp_all [LineInterface.holds])

end Sys2Proof.Machine

/-! SUPPORT. The contention for the line: HEAD_FIXING, LINE_START_BIT and BACKOFF_RESUME (R162, R172, R173, R176). -/

namespace Sys2Proof.Machine

-- One thread, as above: a thread per theorem exceeds the memory limit of the check.
set_option Elab.async false

section Live

variable {s : State} (hlive : s.live = true)
include hlive

theorem exec_headFixing : exec .headFixing s = .next (fixHead (lineIdleFour s)) := by
  change execHeadFixing s = _
  rw [execHeadFixing, if_pos hlive]

theorem exec_lineStartBit : exec .lineStartBit s = .next (pauseBackoff s) := by
  change execLineStartBit s = _
  rw [execLineStartBit, if_pos hlive]

theorem exec_backoffResume : exec .backoffResume s = .next (resumeBackoff (lineIdleFour s)) := by
  change execBackoffResume s = _
  rw [execBackoffResume, if_pos hlive]

end Live

/-- The line is quiet for 4 byte times unless this node drives it. -/
theorem lineIdleFour_of_silent {s : State} (h : s.line.sendingRequest = none) :
    lineIdleFour s = { s with line := { s.line with level := .idle (4 * byteTime) } } := by
  rw [lineIdleFour, h]
  rfl

@[simp] theorem idleFour_quiet (l : LineInterface) :
    LineInterface.idleFour { l with level := .idle (4 * byteTime) } = true := by
  simp [LineInterface.idleFour, LineInterface.idleFor]

theorem fixHead_of_fixed_or_empty {s : State} (h : s.line.contention ≠ .unfixed ∨ s.line.queue = []) : fixHead s = s := by
  obtain hsame | ⟨hc, hq, -, -⟩ := fixHead_cases s
  · exact hsame
  · exact (h.elim (· hc) hq).elim

theorem pauseBackoff_counting {s : State} {e a units : Nat} (h : s.line.contention = .fixed e a (.counting units)) :
    pauseBackoff s = { s with line := { s.line with contention := .fixed e a (.paused units), level := .busy } } := by
  rw [pauseBackoff, h]
  rfl

theorem pauseBackoff_not_counting {s : State} (h : ∀ e a units, s.line.contention ≠ .fixed e a (.counting units)) :
    pauseBackoff s = { s with line := { s.line with level := .busy } } := by
  unfold pauseBackoff
  split
  · rename_i e a units hc
    exact absurd hc (h e a units)
  · rfl

theorem resumeBackoff_paused {s : State} {e a units : Nat} (h : s.line.contention = .fixed e a (.paused units)) :
    resumeBackoff s = { s with line := { s.line with contention := .fixed e a (.counting units) } } := by
  rw [resumeBackoff, h]
  rfl

/-- A lost head draws its next backoff with its own exponent (R176). -/
theorem resumeBackoff_lost {s : State} {e a : Nat} (h : s.line.contention = .fixed e a .lost) :
    resumeBackoff s = { s with
      rng := lfsrNext s.rng
      line := { s.line with
        contention := .fixed e a (.counting (drawFrom (lfsrNext s.rng) (2 ^ e - 1) * byteTime)) } } := by
  rw [resumeBackoff, h]
  rfl

/-- Settles O42: each line event by what the contention holds. -/
theorem backoffIsDrawnPausedAndResumed : Obligations.BackoffIsDrawnPausedAndResumed := by
  intro s hlive quiet
  have hquiet (h : s.line.sendingRequest = none) : lineIdleFour s = quiet := lineIdleFour_of_silent h
  rw [exec_headFixing hlive, exec_lineStartBit hlive, exec_backoffResume hlive]
  refine ⟨fun hc hq => ?_, fun hsilent h => ?_, fun e a units hc => ?_, fun h => ?_, fun e a units hc => ?_,
    fun e a hc => ?_⟩
  · rw [hquiet (sendingRequest_of_unfixed hc), fixHead_eq (s := quiet) hq, if_pos ⟨hc, idleFour_quiet s.line⟩]
  · rw [hquiet hsilent, fixHead_of_fixed_or_empty (s := quiet) h]
  · rw [pauseBackoff_counting hc]
  · rw [pauseBackoff_not_counting h]
  · rw [hquiet (sendingRequest_eq_none (by simp [hc])), resumeBackoff_paused (s := quiet) hc]
  · rw [hquiet (sendingRequest_eq_none (by simp [hc])), resumeBackoff_lost (s := quiet) hc]

end Sys2Proof.Machine

/-! SUPPORT. A notice and its frame: bodies read back from their bytes, and the check (R164 to R167). -/

namespace Sys2Proof.Machine

-- One thread, as above: a thread per theorem exceeds the memory limit of the check.
set_option Elab.async false

theorem toHalf_halfBytes (h : Half) : toHalf (h.extractLsb' 8 8) (h.extractLsb' 0 8) = h := by
  have hall : h.extractLsb' 8 8 ++ h.extractLsb' 0 8 = h.extractLsb' 0 16 :=
    BitVec.extractLsb'_append_extractLsb'_eq_extractLsb' rfl
  exact hall.trans BitVec.extractLsb'_eq_self

theorem parseItems_itemBytes (items : List (Station × Half)) : parseItems (itemBytes items) = some items := by
  induction items with
  | nil => rfl
  | cons x rest ih =>
    simp [itemBytes, stationBytes, halfBytes, parseItems, ih, toStation_stationBytes, toHalf_halfBytes]

theorem kindCode_mem (b : Body) : kindCode b ∈ kindCodes := by
  cases b <;> simp [kindCode, kindCodes]

/-- A body that fits a frame is read back from its kind and its bytes. -/
theorem parseBody_bodyBytes {b : Body} (hfits : (bodyBytes b).length ≤ 40) :
    parseBody (kindCode b) (bodyBytes b) = some b := by
  cases b with
  | tally items =>
    have hlen := itemBytes_length items
    have hcount : (BitVec.ofNat 8 items.length).toNat = items.length := by
      rw [bodyBytes, List.length_cons, hlen] at hfits
      rw [BitVec.toNat_ofNat]
      omega
    have hread : parseBody 0x21 (BitVec.ofNat 8 items.length :: itemBytes items) =
        if (itemBytes items).length = 5 * (BitVec.ofNat 8 items.length).toNat then (parseItems (itemBytes items)).map .tally
        else none := rfl
    rw [kindCode, bodyBytes, hread, hcount, if_pos hlen, parseItems_itemBytes]
    rfl
  | claim root hops generation values =>
    cases values with
    | none => exact congrArg (fun r => some (Body.claim r hops generation none)) (toStation_stationBytes root)
    | some v =>
      exact congrArg₂ (fun r sp => some (Body.claim r hops generation (some (sp, v.2)))) (toStation_stationBytes root)
        (toHalf_halfBytes v.1)
  | presence zone => exact congrArg (some ∘ Body.presence) (toStation_stationBytes zone)
  | warmth zone t =>
    exact congrArg₂ (fun z t => some (Body.warmth z t)) (toStation_stationBytes zone) (toHalf_halfBytes t)
  | ask target page => exact congrArg (fun i => some (Body.ask i page)) (toStation_stationBytes target)
  | set target item value =>
    exact congrArg₂ (fun i v => some (Body.set i item v)) (toStation_stationBytes target) (toHalf_halfBytes value)
  | forget target => exact congrArg (some ∘ Body.forget) (toStation_stationBytes target)
  | call | join | stir | survey | answer => rfl

theorem length_of_judgeNotice_passes {m n : Notice} (h : judgeNotice m = .passes n) : (bodyBytes m.body).length ≤ 40 := by
  by_contra hlong
  rw [judgeNotice, if_pos (by omega)] at h
  cases h

/-- The frame of a notice whose body fits is judged as the notice is. -/
theorem judge_frameBytes {n : Notice} (hfits : (bodyBytes n.body).length ≤ 40) :
    judge ⟨frameBytes n, false⟩ = judgeNotice n := by
  rw [frameBytes, checkedBytes, judge_of_checked _ _ hfits, parseBody_bodyBytes hfits, decide_eq_true (kindCode_mem n.body),
    judgeNotice, if_neg (by omega)]

theorem frameBytes_length (n : Notice) : (frameBytes n).length = (bodyBytes n.body).length + 8 := by
  simp [frameBytes, checkedBytes, stationBytes, halfBytes]

/-- A frame whose two last bytes are not the check over the bytes before them is counted (R166). -/
theorem judge_of_wrong_check {n : Notice} (hfits : (bodyBytes n.body).length ≤ 40) {hi lo : Byte}
    (h : [hi, lo] ≠ halfBytes (crc16 (checkedBytes n))) :
    judge ⟨0xC3 :: (checkedBytes n ++ [hi, lo]), false⟩ = .counted := by
  have hcount : (BitVec.ofNat 8 (bodyBytes n.body).length).toNat = (bodyBytes n.body).length := by
    rw [BitVec.toNat_ofNat]
    omega
  refine judge_check_fails _ _ _ _ _ (bodyBytes n.body ++ [hi, lo]) (.inr (.inr ?_))
  rw [hcount, List.drop_left, List.take_left]
  exact h

/-- Settles O47: the frame is judged as its notice is, and the check covers every byte before it. -/
theorem frameOfAPassingNoticeIsReadBack : Obligations.FrameOfAPassingNoticeIsReadBack := by
  intro n hpasses
  have hfits := length_of_judgeNotice_passes hpasses
  have hlen := frameBytes_length n
  exact ⟨(judge_frameBytes hfits).trans hpasses, hlen, by omega, fun _ _ => judge_of_wrong_check hfits⟩

end Sys2Proof.Machine

/-! SUPPORT. The zone record: the record order, the bytes of a record, and the record area read back after a save (R183 to R185,
R189, R190). -/

namespace Sys2Proof.Machine

-- One thread, as above: a thread per theorem exceeds the memory limit of the check.
set_option Elab.async false

/-! ### The record order (R189) -/

/-- The height of an entry in the record order: an absent pair value stands below all others. -/
def Entry.height (e : Entry) : Nat :=
  match e.pairValue with
  | some p => p + 1
  | none => 0

theorem recordBefore_iff (a b : Entry) : recordBefore a b = true ↔ b.height ≤ a.height := by
  unfold recordBefore Entry.height
  cases a.pairValue <;> cases b.pairValue <;> simp

theorem height_eq_iff {a b : Entry} : a.height = b.height ↔ a.pairValue = b.pairValue := by
  unfold Entry.height
  cases a.pairValue <;> cases b.pairValue <;> simp

theorem height_le_iff {a b : Entry} : b.height ≤ a.height ↔ ∀ q ∈ b.pairValue, ∃ p ∈ a.pairValue, q ≤ p := by
  unfold Entry.height
  cases a.pairValue <;> cases b.pairValue <;> simp

/-- An entry inserted into a descending list stands behind all at least as high as itself and before all lower ones. -/
theorem insertRecord_split {l : List Entry} (h : l.Pairwise (fun x y => y.height ≤ x.height)) (e : Entry) :
    ∃ before after, l = before ++ after ∧ insertRecord e l = before ++ e :: after ∧
      (∀ x ∈ before, e.height ≤ x.height) ∧ ∀ x ∈ after, x.height < e.height := by
  induction l with
  | nil => exact ⟨[], [], rfl, rfl, by simp, by simp⟩
  | cons x rest ih =>
    obtain ⟨hx, hrest⟩ := List.pairwise_cons.mp h
    by_cases hbefore : e.height ≤ x.height
    · obtain ⟨before, after, hl, hins, hhigh, hlow⟩ := ih hrest
      refine ⟨x :: before, after, by rw [hl]; rfl, ?_, List.forall_mem_cons.mpr ⟨hbefore, hhigh⟩, hlow⟩
      rw [insertRecord, if_pos ((recordBefore_iff x e).mpr hbefore), hins]
      rfl
    · refine ⟨[], x :: rest, rfl, ?_, by simp, fun y hy => ?_⟩
      · rw [insertRecord, if_neg (fun hb => hbefore ((recordBefore_iff x e).mp hb))]
        rfl
      · rcases List.mem_cons.mp hy with rfl | hy
        · omega
        · have := hx y hy
          omega

theorem recordOrder_append (l : List Entry) (e : Entry) : recordOrder (l ++ [e]) = insertRecord e (recordOrder l) := by
  simp [recordOrder]

theorem recordOrder_descends (l : List Entry) : (recordOrder l).Pairwise (fun x y => y.height ≤ x.height) := by
  induction l using List.reverseRecOn with
  | nil => exact .nil
  | append_singleton l e ih =>
    obtain ⟨before, after, hl, hins, hhigh, hlow⟩ := insertRecord_split ih e
    rw [recordOrder_append, hins]
    rw [hl, List.pairwise_append] at ih
    obtain ⟨hbefore, hafter, hacross⟩ := ih
    have htail : (e :: after).Pairwise (fun x y => y.height ≤ x.height) :=
      List.pairwise_cons.mpr ⟨fun y hy => (hlow y hy).le, hafter⟩
    refine List.pairwise_append.mpr ⟨hbefore, htail, fun x hx y hy => ?_⟩
    rcases List.mem_cons.mp hy with rfl | hy
    · exact hhigh x hx
    · exact hacross x hx y hy

/-- The record order loses no entry and brings none. -/
theorem recordOrder_perm (l : List Entry) : (recordOrder l).Perm l := by
  induction l using List.reverseRecOn with
  | nil => exact .nil
  | append_singleton l e ih =>
    obtain ⟨before, after, hl, hins, -, -⟩ := insertRecord_split (recordOrder_descends l) e
    rw [recordOrder_append, hins]
    rw [hl] at ih
    exact (List.perm_middle.trans (ih.cons e)).trans (List.perm_append_singleton e l).symm

/-- Entries of one pair value stay in the order given. -/
theorem recordOrder_stable (p : Option Nat) (l : List Entry) :
    (recordOrder l).filter (fun e => decide (e.pairValue = p)) = l.filter (fun e => decide (e.pairValue = p)) := by
  induction l using List.reverseRecOn with
  | nil => rfl
  | append_singleton l e ih =>
    obtain ⟨before, after, hl, hins, -, hlow⟩ := insertRecord_split (recordOrder_descends l) e
    rw [hl] at ih
    rw [recordOrder_append, hins, List.filter_append l, ← ih]
    by_cases he : e.pairValue = p
    · have hnone : after.filter (fun x => decide (x.pairValue = p)) = [] := by
        refine List.filter_eq_nil_iff.mpr fun x hx hp => ?_
        have hsame := height_eq_iff.mpr ((of_decide_eq_true hp).trans he.symm)
        exact absurd hsame (hlow x hx).ne
      simp [he, hnone]
    · simp [he]

/-! ### The bytes of a record (R184) -/

@[simp] theorem halfBytes_length (h : Half) : (halfBytes h).length = 2 := rfl

/-- The pair value as a link position holds it: FFFF where it is absent. -/
def Entry.pairField (e : Entry) : Half :=
  match e.pairValue with
  | some p => BitVec.ofNat 16 p
  | none => 0xFFFF

theorem linkPosition_eq (e : Entry) : linkPosition e = stationBytes e.station ++ halfBytes e.pairField := rfl

@[simp] theorem linkPosition_length (e : Entry) : (linkPosition e).length = 5 := rfl

theorem positions_length (l : List Entry) : (l.flatMap linkPosition).length = 5 * l.length := by
  simp [List.length_flatMap, Nat.mul_comm]

/-- The bytes of the link positions back to back: five to an entry. -/
theorem positions_get (l : List Entry) (i : Nat) {j : Nat} (hj : j < 5) :
    (l.flatMap linkPosition)[5 * i + j]? = l[i]?.bind (fun e => (linkPosition e)[j]?) := by
  induction l generalizing i with
  | nil => rfl
  | cons e rest ih =>
    rw [List.flatMap_cons]
    cases i with
    | zero => rw [List.getElem?_append_left (by simpa using hj), Nat.mul_zero, Nat.zero_add]; rfl
    | succ i =>
      rw [List.getElem?_append_right (by simp; omega), linkPosition_length, show 5 * (i + 1) + j - 5 = 5 * i + j by omega, ih]
      rfl

section Body

variable (working : Station) (setpoint : Int) (setback task : Nat) (linked : List Entry)

/-- Bytes 0..9 of the record, before the link positions. -/
def recordHead : List Byte :=
  0x5A :: (stationBytes working ++ halfBytes (BitVec.ofInt 16 setpoint) ++ [BitVec.ofNat 8 setback] ++
    halfBytes (BitVec.ofNat 16 task) ++ [BitVec.ofNat 8 linked.length])

theorem recordBody_eq : recordBody working setpoint setback task linked =
    recordHead working setpoint setback task linked ++ ((recordOrder linked).flatMap linkPosition ++
      List.replicate (80 - ((recordOrder linked).flatMap linkPosition).length) 0) := by
  simp [recordBody, recordHead]

theorem recordBody_length (h : linked.length ≤ 16) : (recordBody working setpoint setback task linked).length = 90 := by
  have hhead : (recordHead working setpoint setback task linked).length = 10 := rfl
  have hlen := (recordOrder_perm linked).length_eq
  simp only [recordBody_eq, List.length_append, hhead, List.length_replicate, positions_length, hlen]
  omega

/-- Byte `j` of link position `i`. -/
theorem recordBody_position {i j : Nat} (hj : j < 5) {e : Entry} (he : (recordOrder linked)[i]? = some e) :
    (recordBody working setpoint setback task linked)[10 + (5 * i + j)]? = (linkPosition e)[j]? := by
  have hhead : (recordHead working setpoint setback task linked).length = 10 := rfl
  have hi := (List.getElem?_eq_some_iff.mp he).1
  rw [recordBody_eq, List.getElem?_append_right (by omega), hhead, Nat.add_sub_cancel_left,
    List.getElem?_append_left (by rw [positions_length]; omega), positions_get _ _ hj, he]
  rfl

end Body

theorem byteSum_le (l : List Byte) : byteSum l ≤ 255 * l.length := by
  induction l with
  | nil => exact Nat.le_refl _
  | cons b rest ih =>
    have hb := b.isLt
    simp only [byteSum, List.map_cons, List.sum_cons, List.length_cons] at ih ⊢
    omega

/-- The linked entries, of which a save keeps the record. -/
def State.linkedEntries (s : State) : List Entry := (entriesOf s.table.slots).filter (fun e => e.link.isLinked)

/-- Bytes 0..89 of the record of the state as it stands. -/
def State.bodyNow (s : State) : List Byte :=
  recordBody s.zone.working s.climate.setpoint s.climate.setback s.light.task s.linkedEntries

theorem snapshotNow_eq (s : State) : s.snapshotNow = s.bodyNow ++ halfBytes (BitVec.ofNat 16 (byteSum s.bodyNow)) := rfl

theorem linkedEntries_length {s : State} (h : s.table.slots.length ≤ 16) : s.linkedEntries.length ≤ 16 :=
  (List.length_filter_le _ _).trans ((List.length_filterMap_le id s.table.slots).trans h)

theorem bodyNow_length {s : State} (h : s.table.slots.length ≤ 16) : s.bodyNow.length = 90 :=
  recordBody_length _ _ _ _ _ (linkedEntries_length h)

theorem snapshotNow_length {s : State} (h : s.table.slots.length ≤ 16) : s.snapshotNow.length = 92 := by
  simp [snapshotNow_eq, bodyNow_length h]

/-! ### The record area after a save (R183, R190) -/

/-- Bytes of a page programmed from the lowest up read as programmed, in what was erased. -/
theorem Memory.read_programAll_same {m : Memory} (hm : m.wf = true) {a : Nat} (ha : 32 ≤ a) {vs : List Byte}
    (hb : a + vs.length ≤ 256) {i : Nat} {v : Byte} (hv : vs[i]? = some v) :
    (m.programAll a vs).read (a + i) = m.read (a + i) &&& v := by
  induction vs generalizing m a i with
  | nil => cases hv
  | cons w rest ih =>
    simp only [List.length_cons] at hb
    have hpage : pageOf a ≠ 0 := by unfold pageOf; omega
    cases i with
    | zero =>
      obtain rfl : w = v := by simpa using hv
      rw [Nat.add_zero, Memory.programAll, Memory.read_programAll_other _ _ _ _ (by omega),
        Memory.read_program_same _ _ _ hm hpage (by omega)]
    | succ i =>
      have hrest := ih (Memory.wf_program a w hm) (show 32 ≤ a + 1 by omega) (by omega) (i := i) (by simpa using hv)
      rw [Memory.programAll, show a + (i + 1) = a + 1 + i by omega, hrest, Memory.read_program_other _ _ _ _ (by omega)]

/-- The record area holds some bytes from address 32 on. -/
def Memory.Carries (m : Memory) (bytes : List Byte) : Prop := ∀ i b, bytes[i]? = some b → m.read (32 + i) = b

/-- After a whole save it holds the snapshot. -/
theorem Memory.carries_writeRecord {m : Memory} (hm : m.wf = true) {snapshot : List Byte} (hlen : snapshot.length = 92) :
    (m.writeRecord snapshot).Carries snapshot := by
  intro i b hb
  have hi : i < 92 := hlen ▸ (List.getElem?_eq_some_iff.mp hb).1
  have h1 := Memory.wf_erasePage 1 hm
  have h2 := Memory.wf_erasePage 2 h1
  have h3 := Memory.wf_erasePage 3 (Memory.wf_programAll 64 ((snapshot.drop 32).take 32) h2)
  have hpage : pageOf (32 + i) = 1 + i / 32 := by unfold pageOf; omega
  have herased : erasedByte &&& b = b := BitVec.allOnes_and
  unfold Memory.writeRecord
  dsimp only
  rcases (by omega : i < 32 ∨ (32 ≤ i ∧ i < 64) ∨ 64 ≤ i) with h | ⟨hlow, hhigh⟩ | h
  · have hget : (snapshot.take 32)[i]'(by simp; omega) = b := by
      simpa using (List.getElem?_eq_some_iff.mp hb).2
    rw [Memory.read_programDown_same _ _ _ _ (Memory.wf_programAll _ _ h3) (by omega) (by simp; omega) (by simp; omega), hget,
      Memory.read_programAll_other _ _ _ _ (by omega), Memory.read_erasePage_other _ _ _ (by omega),
      Memory.read_programAll_other _ _ _ _ (by omega), Memory.read_erasePage_other _ _ _ (by omega),
      Memory.read_erasePage_same _ _ _ (by omega) (by omega), herased]
  · have hget : ((snapshot.drop 32).take 32)[i - 32]? = some b := by
      rw [List.getElem?_take_of_lt (by omega), List.getElem?_drop, show 32 + (i - 32) = i by omega, hb]
    rw [Memory.read_programDown_other _ _ _ _ (by simp; omega), Memory.read_programAll_other _ _ _ _ (by omega),
      Memory.read_erasePage_other _ _ _ (by omega), show 32 + i = 64 + (i - 32) by omega,
      Memory.read_programAll_same h2 (by omega) (by simp; omega) hget, show 64 + (i - 32) = 32 + i by omega,
      Memory.read_erasePage_same _ _ _ (by omega) (by omega), herased]
  · have hget : ((snapshot.drop 64).take 28)[i - 64]? = some b := by
      rw [List.getElem?_take_of_lt (by omega), List.getElem?_drop, show 64 + (i - 64) = i by omega, hb]
    rw [Memory.read_programDown_other _ _ _ _ (by simp; omega), show 32 + i = 96 + (i - 64) by omega,
      Memory.read_programAll_same h3 (by omega) (by simp; omega) hget, show 96 + (i - 64) = 32 + i by omega,
      Memory.read_erasePage_same _ _ _ (by omega) (by omega), herased]

/-! ### The record read back (R184, R185) -/

section ReadBack

variable {m : Memory} {s : State} (h : m.Carries s.snapshotNow)
include h

/-- A byte of the body stands at its place in the record area. -/
theorem read_of_bodyNow {i : Nat} {b : Byte} (hb : s.bodyNow[i]? = some b) : m.read (32 + i) = b := by
  refine h i b ?_
  rw [snapshotNow_eq, List.getElem?_append_left (List.getElem?_eq_some_iff.mp hb).1, hb]

theorem recordWorking_of_carries : m.recordWorking = s.zone.working := by
  rw [Memory.recordWorking, read_of_bodyNow h (i := 1) rfl, read_of_bodyNow h (i := 2) rfl,
    read_of_bodyNow h (i := 3) rfl, toStation_stationBytes]

theorem recordSetpoint_of_carries (hlow : -32768 ≤ s.climate.setpoint) (hhigh : s.climate.setpoint ≤ 32767) :
    m.recordSetpoint = s.climate.setpoint := by
  rw [Memory.recordSetpoint, read_of_bodyNow h (i := 4) rfl, read_of_bodyNow h (i := 5) rfl, toHalf_halfBytes]
  exact BitVec.toInt_ofInt_eq_self (by decide) hlow (by omega)

theorem recordSetback_of_carries (hsetback : s.climate.setback ≤ 255) : m.recordSetback = s.climate.setback := by
  rw [Memory.recordSetback, read_of_bodyNow h (i := 6) rfl, BitVec.toNat_ofNat]
  omega

theorem recordTask_of_carries (htask : s.light.task ≤ 65535) : m.recordTask = s.light.task := by
  rw [Memory.recordTask, read_of_bodyNow h (i := 7) rfl, read_of_bodyNow h (i := 8) rfl, toHalf_halfBytes,
    BitVec.toNat_ofNat]
  omega

variable (hslots : s.table.slots.length ≤ 16)
include hslots

theorem bytes_eq_bodyNow : m.bytes 32 90 = s.bodyNow := by
  have hlen := bodyNow_length hslots
  refine List.ext_getElem? fun i => ?_
  by_cases hi : i < 90
  · have hget : s.bodyNow[i]? = some s.bodyNow[i] := List.getElem?_eq_getElem (by omega)
    rw [hget, ← read_of_bodyNow h hget]
    simp [Memory.bytes, hi]
  · rw [List.getElem?_eq_none (by simp [Memory.bytes]; omega), List.getElem?_eq_none (by omega)]

/-- The link count of the record. -/
theorem read_linkCount : (m.read 41).toNat = s.linkedEntries.length := by
  have hfew := linkedEntries_length hslots
  have hcount : m.read 41 = BitVec.ofNat 8 s.linkedEntries.length := read_of_bodyNow h (i := 9) rfl
  rw [hcount, BitVec.toNat_ofNat]
  omega

/-- The marker, the link count and the sum make the record a good one. -/
theorem goodRecord_of_carries : m.goodRecord = true := by
  have hlen := bodyNow_length hslots
  have hsum := byteSum_le s.bodyNow
  have hmarker : m.read 32 = 0x5A := read_of_bodyNow h (i := 0) rfl
  have hcheck (j : Nat) (b : Byte) (hb : (halfBytes (BitVec.ofNat 16 (byteSum s.bodyNow)))[j]? = some b) :
      m.read (122 + j) = b := by
    rw [show 122 + j = 32 + (90 + j) by omega]
    refine h _ b ?_
    rw [snapshotNow_eq, List.getElem?_append_right (by omega), hlen, Nat.add_sub_cancel_left, hb]
  have hhigh := hcheck 0 _ rfl
  have hlow := hcheck 1 _ rfl
  simp only [Memory.goodRecord, hmarker, read_linkCount h hslots, bytes_eq_bodyNow h hslots, hhigh, hlow, toHalf_halfBytes,
    BitVec.toNat_ofNat, Nat.mod_eq_of_lt (show byteSum s.bodyNow < 2 ^ 16 by omega)]
  simpa using linkedEntries_length hslots

/-- The station and the field of a link position. -/
theorem recordLinks_of_carries :
    m.recordLinks = (recordOrder s.linkedEntries).map (fun e => (e.station, e.pairField)) := by
  have hlen := (recordOrder_perm s.linkedEntries).length_eq
  refine List.ext_getElem ?_ fun i hi hi' => ?_
  · simp [Memory.recordLinks, read_linkCount h hslots, hlen]
  · have hmem : i < (recordOrder s.linkedEntries).length := by simpa using hi'
    have hbyte (j : Nat) (hj : j < 5) {b : Byte}
        (hb : (linkPosition (recordOrder s.linkedEntries)[i])[j]? = some b) : m.read (42 + j + 5 * i) = b := by
      rw [show 42 + j + 5 * i = 32 + (10 + (5 * i + j)) by omega]
      refine read_of_bodyNow h (Eq.trans ?_ hb)
      exact recordBody_position _ _ _ _ _ hj (List.getElem?_eq_getElem hmem)
    rw [linkPosition_eq] at hbyte
    simp only [Memory.recordLinks, List.getElem_map, List.getElem_range, hbyte 0 (by omega) rfl, hbyte 1 (by omega) rfl,
      hbyte 2 (by omega) rfl, hbyte 3 (by omega) rfl, hbyte 4 (by omega) rfl, toStation_stationBytes, toHalf_halfBytes]

end ReadBack

/-- Settles O52: a save leaves the snapshot in the record area, and each field is read from its bytes. -/
theorem savedRecordIsRestoredAsTaken : Obligations.SavedRecordIsRestoredAsTaken := by
  intro s hwf hslots hlow hhigh hsetback htask
  have hfew : s.table.slots.length ≤ 16 := hslots.le
  have hcarries := Memory.carries_writeRecord hwf (snapshotNow_length hfew)
  exact ⟨goodRecord_of_carries hcarries hfew, recordWorking_of_carries hcarries,
    recordSetpoint_of_carries hcarries hlow hhigh, recordSetback_of_carries hcarries hsetback,
    recordTask_of_carries hcarries htask, recordLinks_of_carries hcarries hfew, recordOrder_perm _,
    fun p => recordOrder_stable p _, (recordOrder_descends _).imp height_le_iff.mp,
    fun a ha => Memory.read_writeRecord_page0 _ _ a ha⟩

end Sys2Proof.Machine

/-! SUPPORT. The save engine: its requests, its expiries and its completions (R187 to R190). -/

namespace Sys2Proof.Machine

-- One thread, as above: a thread per theorem exceeds the memory limit of the check.
set_option Elab.async false

/-! ### Requests and expiries (R187 to R189) -/

theorem exec_restTimerExpiry {s : State} (h : s.memory.rest.isSome = true) :
    exec .restTimerExpiry s = .next (startPendingSave (s.withMemory { s.memory with rest := none })) :=
  congrArg _ (if_pos h)

theorem exec_linkHoldOffExpiry {s : State} (h : s.memory.linkHoldOff.isSome = true) :
    exec .linkHoldOffExpiry s = .next (saveRequest (s.withMemory { s.memory with linkHoldOff := none })) :=
  congrArg _ (if_pos h)

theorem startPendingSave_eq (s : State) : startPendingSave s =
    if s.memory.pendingSave = true ∧ s.memory.engine = .idle ∧ s.memory.rest = none then startSave s else s := by
  unfold startPendingSave
  split
  · rename_i hp he hr
    rw [if_pos ⟨hp, he, hr⟩]
  · rename_i h
    rw [if_neg fun ⟨hp, he, hr⟩ => h hp he hr]

theorem saveRequest_starts {s : State} (hp : s.memory.pendingSave = false) (he : s.memory.engine = .idle)
    (hr : s.memory.rest = none) : saveRequest s = startSave s := by
  simp [saveRequest, hp, he, hr]

theorem saveRequest_waits {s : State} (hp : s.memory.pendingSave = false)
    (hbusy : s.memory.engine ≠ .idle ∨ s.memory.rest.isSome = true) :
    saveRequest s = s.withMemory { s.memory with pendingSave := true } := by
  rcases saveRequest_cases s with ⟨h, -⟩ | ⟨-, he, hr, -⟩ | ⟨-, -, h⟩
  · simp [hp] at h
  · simp [he, hr] at hbusy
  · exact h

/-- Settles O49: the three ways of a request, and each expiry by its equation. -/
theorem saveRequestsStartWaitOrMerge : Obligations.SaveRequestsStartWaitOrMerge := by
  refine fun s => ⟨fun hp => by simp [saveRequest, hp], saveRequest_starts, saveRequest_waits, fun hruns => ?_,
    exec_linkHoldOffExpiry⟩
  rw [exec_restTimerExpiry hruns, startPendingSave_eq]
  by_cases h : s.memory.pendingSave = true ∧ s.memory.engine = .idle
  · rw [if_pos h, if_pos ⟨h.1, h.2, rfl⟩]
    rfl
  · rw [if_neg h, if_neg fun ⟨hp, he, _⟩ => h ⟨hp, he⟩]
    rfl

/-! ### Completions (R188, R190) -/

/-- A whole clear leaves the bytes outside the record area. -/
theorem Memory.read_clearRecord_other (m : Memory) {a : Nat} (h : a < 32 ∨ 128 ≤ a) : m.clearRecord.read a = m.read a := by
  have hpage : pageOf a = 0 ∨ 4 ≤ pageOf a := by unfold pageOf; omega
  unfold Memory.clearRecord
  rw [Memory.read_erasePage_other _ _ _ (by omega), Memory.read_erasePage_other _ _ _ (by omega),
    Memory.read_erasePage_other _ _ _ (by omega)]

/-- The marker is erased with page 1. -/
theorem Memory.goodRecord_clearRecord (m : Memory) : m.clearRecord.goodRecord = false := by
  refine Memory.goodRecord_of_marker ?_
  unfold Memory.clearRecord
  rw [Memory.read_erasePage_other _ _ _ (by decide), Memory.read_erasePage_other _ _ _ (by decide),
    Memory.read_erasePage_same _ _ _ (by decide) (by decide)]
  decide

theorem exec_saveCompletion {s : State} {elapsed : Nat} {snapshot : List Byte} (he : s.memory.engine = .saving elapsed)
    (hs : s.memory.snapshot = some snapshot) : exec .saveCompletion s =
      .next (s.withMemory
        { s.memory with
          nv := s.memory.nv.writeRecord snapshot, snapshot := none, pendingClear := false
          engine := if s.memory.pendingClear then .clearing 0 else .idle, rest := some (seconds 300) }) := by
  change execSaveCompletion s = _
  simp [execSaveCompletion, he, hs]

/-- The engine idle over the pages cleared. -/
def State.cleared (s : State) : State := s.withMemory { s.memory with nv := s.memory.nv.clearRecord, engine := .idle }

theorem exec_clearCompletion {s : State} {elapsed : Nat} (he : s.memory.engine = .clearing elapsed) :
    exec .clearCompletion s = .next (startPendingSave s.cleared) := by
  change execClearCompletion s = _
  simp [execClearCompletion, he, State.cleared]

/-- Settles O50: the save by its equation, the clear by the save that starts after it or does not. -/
theorem saveAndClearCompletionsWriteThePages : Obligations.SaveAndClearCompletionsWriteThePages := by
  refine fun s elapsed => ⟨fun snapshot => exec_saveCompletion, fun he => ⟨_, exec_clearCompletion he, ?_⟩⟩
  have hgood := s.memory.nv.goodRecord_clearRecord
  have hother := fun a => s.memory.nv.read_clearRecord_other (a := a)
  rw [startPendingSave_eq]
  by_cases hstarts : s.memory.pendingSave = true ∧ s.memory.rest = none
  · have h : s.cleared.memory.pendingSave = true ∧ s.cleared.memory.engine = .idle ∧ s.cleared.memory.rest = none :=
      ⟨hstarts.1, rfl, hstarts.2⟩
    rw [if_pos h, if_pos hstarts]
    exact ⟨rfl, rfl, hgood, rfl, by simp [startSave, hstarts.2], hother, rfl⟩
  · have h : ¬ (s.cleared.memory.pendingSave = true ∧ s.cleared.memory.engine = .idle ∧ s.cleared.memory.rest = none) :=
      fun ⟨hp, _, hr⟩ => hstarts ⟨hp, hr⟩
    rw [if_neg h, if_neg hstarts]
    refine ⟨rfl, rfl, hgood, rfl, ⟨fun hp => ⟨hp, ?_⟩, And.left⟩, hother, rfl⟩
    exact Option.isSome_iff_ne_none.mpr fun hr => hstarts ⟨hp, hr⟩

end Sys2Proof.Machine

/-! SUPPORT. Every step leaves the identity page, and keeps the pages in form and the save engine sound. Most operations leave
Zone Memory alone, or start its hold-off timer (R183, R186 to R192). -/

namespace Sys2Proof.Machine

-- One thread, as above: a thread per theorem exceeds the memory limit of the check.
set_option Elab.async false

/-! ### Zone Memory kept -/

/-- Zone Memory but for the hold-off timer, on which neither the pages nor the save engine rest. -/
def ZoneMemory.unheld (z : ZoneMemory) : ZoneMemory := { z with linkHoldOff := none }

@[simp] theorem ZoneMemory.unheld_held (z : ZoneMemory) (timer : Timer) :
    ({ z with linkHoldOff := timer } : ZoneMemory).unheld = z.unheld := rfl

/-- The pages and the save engine sound, clause by clause. -/
structure ZoneMemory.Sound (z : ZoneMemory) : Prop where
  canonical : z.nv.wf = true
  snapshot : ∀ bytes ∈ z.snapshot, bytes.length = 92
  held : z.snapshot.isSome = z.engine.isSaving
  clears : z.pendingClear = true → z.engine.isSaving = true
  waits : z.pendingSave = true → z.engine ≠ .idle ∨ z.rest.isSome = true

theorem memorySound_iff (s : State) : s.MemorySound ↔ s.memory.Sound :=
  ⟨fun ⟨canonical, snapshot, held, clears, waits⟩ => ⟨canonical, snapshot, held, clears, waits⟩,
    fun ⟨canonical, snapshot, held, clears, waits⟩ => ⟨canonical, snapshot, held, clears, waits⟩⟩

theorem ZoneMemory.Sound.congr {z w : ZoneMemory} (hz : z.Sound) (h : w.unheld = z.unheld) : w.Sound := by
  have hsame : w.unheld.Sound := by
    rw [h]
    exact { hz with }
  exact { hsame with }

/-- From the first state to the second the identity page stays, the pages keep their form, and a sound save engine stays sound.
A record fits its area where the table has its 16 slots. -/
structure MemoryKept (s t : State) : Prop where
  identity : ∀ a, a < 32 → t.memory.nv.read a = s.memory.nv.read a
  canonical : s.memory.nv.wf = true → t.memory.nv.wf = true
  sound : s.table.slots.length = 16 → s.memory.Sound → t.memory.Sound

namespace MemoryKept

variable {s t x : State}

/-- At most the hold-off has changed. Most operations of the part are of this kind. -/
theorem of_unheld (h : t.memory.unheld = s.memory.unheld := by simp) : MemoryKept s t := by
  have hnv : t.memory.nv = s.memory.nv := (congrArg ZoneMemory.nv h :)
  exact ⟨fun a _ => by rw [hnv], fun hwf => by rw [hnv]; exact hwf, fun _ hs => hs.congr h⟩

theorem refl (s : State) : MemoryKept s s := of_unheld rfl

/-- What is kept from a state is kept from one with its table and its save engine. -/
theorem after (h : MemoryKept x t) (hsame : x.table = s.table ∧ x.memory.unheld = s.memory.unheld := by simp) :
    MemoryKept s t := by
  obtain ⟨htable, hmemory⟩ := hsame
  obtain ⟨hidentity, hcanonical, hsound⟩ := h
  have hnv : x.memory.nv = s.memory.nv := (congrArg ZoneMemory.nv hmemory :)
  rw [hnv] at hidentity hcanonical
  rw [htable] at hsound
  exact ⟨hidentity, hcanonical, fun hslots hs => hsound hslots (hs.congr hmemory)⟩

/-- What a state keeps, one with its save engine keeps. -/
theorem before (h : MemoryKept s x) (hsame : t.memory = x.memory) : MemoryKept s t := by
  obtain ⟨hidentity, hcanonical, hsound⟩ := h
  rw [← hsame] at hidentity hcanonical hsound
  exact ⟨hidentity, hcanonical, hsound⟩

theorem station (h : MemoryKept s t) : t.station = s.station := by
  simp only [State.station, Memory.stationId, h.identity 0 (by omega), h.identity 1 (by omega), h.identity 2 (by omega)]

end MemoryKept

theorem ite_memoryKept {p : Prop} [Decidable p] {s t : State} (h : p → MemoryKept s t) :
    MemoryKept s (if p then t else s) := by
  split
  · rename_i hp; exact h hp
  · exact .refl s

theorem onExpiry_memoryKept {effect : State → State} {s : State} {timer : Timer} (h : MemoryKept s (effect s)) :
    MemoryKept s (onExpiry timer effect s) := by
  rcases onExpiry_cases timer effect s with ⟨-, e⟩ | ⟨-, e⟩ <;> rw [e]
  · exact h
  · exact .refl s

/-! ### The hold-off of link events (R67, R187) -/

@[simp] theorem handLinkEvent_unheld (s : State) : (handLinkEvent s).memory.unheld = s.memory.unheld := by
  unfold handLinkEvent memoryLinkEvent
  split
  · simp
  · simp

@[simp] theorem evaluateSlot_unheld (i : Nat) (s : State) : (evaluateSlot i s).memory.unheld = s.memory.unheld := by
  rcases evaluateSlot_cases i s with h | ⟨e, link, -, -, -, h | h⟩ <;> simp [h]

@[simp] theorem storeSeen_unheld (i k : Nat) (s : State) : (storeSeen i k s).memory.unheld = s.memory.unheld := by
  unfold storeSeen
  split
  · rfl
  · dsimp only
    split
    · simp
    · simp

@[simp] theorem storeTold_unheld (i v : Nat) (s : State) : (storeTold i v s).memory.unheld = s.memory.unheld := by
  unfold storeTold
  split
  · rfl
  · simp

@[simp] theorem takeResult_unheld (s : State) (r : ProbeResult) : (takeResult s r).memory.unheld = s.memory.unheld := by
  unfold takeResult
  split
  · split
    · simp
    · simp
  · rfl

@[simp] theorem takeTally_unheld (sender : Station) (items : List (Station × Half)) (s : State) :
    (takeTally sender items s).memory.unheld = s.memory.unheld := by
  have hitem (x : State) (item : Station × Half) : (takeTallyItem sender x item).memory.unheld = x.memory.unheld := by
    unfold takeTallyItem
    split
    · split
      · simp
      · simp
    · rfl
  unfold takeTally
  split
  · rfl
  · exact foldl_view (fun x => x.memory.unheld) _ hitem items s

@[simp] theorem ageTable_unheld (s : State) : (ageTable s).memory.unheld = s.memory.unheld := by
  have hentry (x : State) (i : Nat) : (ageOutEntry x i).memory.unheld = x.memory.unheld := by
    unfold ageOutEntry
    split
    · split
      · split
        · simp
        · simp
      · rfl
    · rfl
  unfold ageTable
  split
  · rfl
  · exact foldl_view (fun x => x.memory.unheld) _ hentry _ _

@[simp] theorem deliverResults_unheld (s : State) : (deliverResults s).memory.unheld = s.memory.unheld := by
  have htaken (results : List ProbeResult) (x : State) : (takeResults results x).memory.unheld = x.memory.unheld := by
    unfold takeResults
    dsimp only
    rw [foldl_view (fun x => x.memory.unheld) takeResult takeResult_unheld]
    split
    · simp
    · rfl
  unfold deliverResults
  split
  · dsimp only
    split
    · simp [htaken]
    · simp [htaken]
  · rfl
  · rfl

@[simp] theorem closeRound_unheld (s : State) : (closeRound s).memory.unheld = s.memory.unheld := by
  have heither : (eitherOrder deliverResults schedClose s).memory.unheld = s.memory.unheld :=
    eitherOrder_view (fun x => x.memory.unheld) _ _ deliverResults_unheld (by simp) (fun _ _ => rfl) s
  simpa [closeRound] using heither

/-! ### Commands that leave Zone Memory alone -/

@[simp] theorem passGuard_memory (s : State) : (passGuard s).memory = s.memory := by
  unfold passGuard
  dsimp only
  split
  · simp
  · simp

@[simp] theorem beginChips_memory (s : State) : (beginChips s).memory = s.memory := by
  unfold beginChips
  rcases startSense_cases _ with ⟨-, e⟩ | e <;> rw [e]
  · rfl
  · rfl

@[simp] theorem endTemperature_memory (b : Burst) (code : AdcCode) (s : State) :
    (endTemperature b code s).memory = s.memory := by
  unfold endTemperature
  dsimp only
  split
  · simp
  · simp

@[simp] theorem giveUpTurn_memory (s : State) : (giveUpTurn s).memory = s.memory := by
  unfold giveUpTurn
  dsimp only
  split
  · simp
  · simp

@[simp] theorem takeSample_memory (isActive : Bool) (s : State) : (takeSample isActive s).memory = s.memory := by
  have hended (x : State) : (endWindow x).memory = x.memory := by
    unfold endWindow
    split
    · simp
    · simp
  unfold takeSample
  generalize (if isActive then s.light.activeCount + 1 else s.light.activeCount) = active
  dsimp only
  split
  · rw [hended]
    rfl
  · rfl

@[simp] theorem takePulseSample_memory (pinHigh : Bool) (s : State) : (takePulseSample pinHigh s).memory = s.memory := by
  rcases takePulseSample_cases pinHigh s with ⟨-, -, -, h⟩ | ⟨-, h⟩ <;> simp [h, acceptEdge]

@[simp] theorem readPages_memory (s : State) : (readPages s).memory = s.memory := by
  have hlink (x : State) (link : Station × Half) : (restoreLink x link).memory = x.memory := by
    unfold restoreLink
    dsimp only
    split
    · rfl
    · split
      · simp
      · rfl
  rcases readPages_cases s with h | h <;> rw [h]
  · rfl
  · exact foldl_view State.memory restoreLink hlink _ _

/-! ### The save engine (R186 to R192) -/

/-- A save that starts is sound: it holds its snapshot, and no request waits. -/
theorem startSave_sound {s : State} (hslots : s.table.slots.length = 16) (hwf : s.memory.nv.wf = true) :
    (startSave s).memory.Sound where
  canonical := hwf
  snapshot := fun _ h => Option.some.inj h ▸ snapshotNow_length hslots.le
  held := rfl
  clears := fun _ => rfl
  waits := fun h => by cases h

theorem saveRequest_memoryKept (s : State) : MemoryKept s (saveRequest s) := by
  refine ⟨fun a _ => by simp, fun hwf => by simpa using hwf, fun hslots hs => ?_⟩
  rcases saveRequest_cases s with ⟨-, h⟩ | ⟨-, -, -, h⟩ | ⟨-, hbusy, h⟩ <;> rw [h]
  · exact hs
  · exact startSave_sound hslots hs.canonical
  · exact { hs with waits := fun _ => hbusy }

theorem zoneChange_memoryKept (root : Station) (save : Bool) (s : State) : MemoryKept s (zoneChange root save s) := by
  obtain ⟨lit, hlit, h⟩ := zoneChange_cases root save s
  have hsame : lit.table = s.table ∧ lit.memory.unheld = s.memory.unheld := by
    rcases hlit with rfl | rfl <;> simp
  rw [h]
  split
  · exact (saveRequest_memoryKept _).after (by simpa using hsame)
  · exact .of_unheld (by simpa using hsame.2)

theorem restTimerExpiry_memoryKept (s : State) :
    MemoryKept s (startPendingSave (s.withMemory { s.memory with rest := none })) := by
  refine ⟨fun a _ => by simp, fun hwf => by simpa using hwf, fun hslots hs => ?_⟩
  rw [startPendingSave_eq]
  split
  · exact startSave_sound hslots hs.canonical
  · rename_i hwaits
    exact { hs with waits := fun hp => .inl fun hidle => hwaits ⟨hp, hidle, rfl⟩ }

/-- A clear waits on a save alone, so that the engine idle again holds nothing. -/
theorem clearCompletion_memoryKept {s : State} {elapsed : Nat} (he : s.memory.engine = .clearing elapsed) :
    MemoryKept s (startPendingSave s.cleared) := by
  refine ⟨fun a ha => ?_, fun hwf => ?_, fun hslots hs => ?_⟩
  · rw [startPendingSave_nv]
    exact Memory.read_clearRecord_page0 s.memory.nv a ha
  · rw [startPendingSave_nv]
    exact Memory.wf_clearRecord hwf
  · have hwf : s.cleared.memory.nv.wf = true := Memory.wf_clearRecord hs.canonical
    have hheld := hs.held
    have hclears := hs.clears
    rw [he] at hheld hclears
    rw [startPendingSave_eq]
    split
    · exact startSave_sound hslots hwf
    · rename_i hwaits
      refine { hs with canonical := hwf, held := hheld, clears := hclears, waits := fun hp => .inr ?_ }
      exact Option.isSome_iff_ne_none.mpr fun hrest => hwaits ⟨hp, rfl, hrest⟩

theorem forgetRecord_memoryKept (s : State) : MemoryKept s (forgetRecord s) := by
  refine ⟨fun a _ => by simp, fun hwf => by simpa using hwf, fun _ hs => ?_⟩
  have hsaving : (if s.memory.engine = .idle then .clearing 0 else s.memory.engine).isSaving = s.memory.engine.isSaving := by
    cases s.memory.engine <;> rfl
  have hclears : (s.memory.pendingClear || s.memory.engine.isSaving) = true → s.memory.engine.isSaving = true := by
    simpa [or_imp] using hs.clears
  rw [forgetRecord_memory]
  exact { hs with
    held := hs.held.trans hsaving.symm, clears := fun h => hsaving.trans (hclears h), waits := fun h => by cases h }

/-- A FORGET at the engine is all that Zone Memory takes of it. -/
theorem takeForget_memoryKept (target : Station) (s : State) : MemoryKept s (takeForget target s) := by
  have hzone (x : State) : (forgetZone x).memory = x.memory := congrArg ForgetView.memory (forgetZone_view x)
  refine ite_memoryKept fun _ => (forgetRecord_memoryKept s).before ?_
  exact anyOrder_view State.memory emptyTable forgetZone (enterBrisk (seconds 600)) (by simp) hzone (by simp) (fun _ _ => rfl) _

/-- A save completed leaves no snapshot and no clear waiting, and the rest timer runs. -/
theorem saveCompletion_memoryKept (s : State) :
    MemoryKept s (s.withMemory
      { s.memory with
        nv := s.memory.nv.writeRecord (s.memory.snapshot.getD []), snapshot := none
        engine := if s.memory.pendingClear then .clearing 0 else .idle, pendingClear := false
        rest := some (seconds 300) }) := by
  refine ⟨fun a ha => Memory.read_writeRecord_page0 _ _ a ha, Memory.wf_writeRecord _, fun _ hs => ?_⟩
  exact {
    canonical := Memory.wf_writeRecord _ hs.canonical
    snapshot := fun _ h => by cases h
    held := by
      change false = _
      split <;> rfl
    clears := fun h => by cases h
    waits := fun _ => .inr rfl }

/-- A reset leaves an idle engine over what the page cycle in progress left (R186, R191). -/
theorem afterReset_memoryKept (s : State) : MemoryKept s (afterReset s) where
  identity a ha := ZoneMemory.read_afterReset_page0 s.memory s.free a ha
  canonical hwf := ZoneMemory.wf_afterReset _ _ hwf
  sound _ hs := {
    canonical := ZoneMemory.wf_afterReset _ _ hs.canonical
    snapshot := fun _ h => by cases h
    held := rfl
    clears := fun h => by cases h
    waits := fun h => by cases h }

/-- The page cycle and the timers of Zone Memory run on. -/
theorem freeTick_memoryKept (s : State) : MemoryKept s (freeTick s) := by
  have hsaving : s.memory.engine.tick.isSaving = s.memory.engine.isSaving := by
    cases s.memory.engine <;> rfl
  have hidle : s.memory.engine ≠ .idle → s.memory.engine.tick ≠ .idle := by
    cases s.memory.engine <;> simp [Engine.tick]
  unfold freeTick
  dsimp only
  split
  · refine ⟨fun a _ => rfl, id, fun _ hs => ?_⟩
    exact { hs with
      held := hs.held.trans hsaving.symm
      clears := fun h => hsaving.trans (hs.clears h)
      waits := fun h => (hs.waits h).imp hidle fun hr => by simpa [Timer.tick] using hr }
  · exact .of_unheld rfl

theorem crystalCycle_memoryKept (s : State) : MemoryKept s (crystalCycle s) := by
  unfold crystalCycle
  dsimp only
  split
  · exact .of_unheld rfl
  · exact (freeTick_memoryKept _).after ⟨rfl, rfl⟩

/-! ### Notices (R166, R168) -/

theorem deliver_memoryKept (n : Notice) (s : State) : MemoryKept s (deliver n s) := by
  obtain ⟨sender, body⟩ := n
  cases body with
  | call d => exact .of_unheld (t := takeCall sender d.toNat s)
  | join d p => exact .of_unheld (t := takeJoin sender d.toNat p.toNat s)
  | tally items => exact .of_unheld (t := takeTally sender items s)
  | stir cause => exact .of_unheld (t := takeStir sender s)
  | survey minutes => exact .of_unheld (t := takeSurvey minutes s)
  | claim root hops generation values => exact .of_unheld (t := takeClaim sender ⟨root, hops.toNat, generation⟩ values s)
  | presence zone => exact .of_unheld (t := takePresence zone s)
  | warmth zone temperature => exact .of_unheld (t := takeWarmth sender zone temperature.toInt s)
  | ask target page => exact .of_unheld (t := takeAsk target page s)
  | answer page content => exact .refl s
  | set target item value =>
    exact ite_memoryKept (t := saveRequest (setItem item.toNat value.toInt s)) fun _ => (saveRequest_memoryKept _).after
  | forget target => exact takeForget_memoryKept target s

theorem applyVerdict_memoryKept (v : Verdict) (s : State) : MemoryKept s (applyVerdict v s) := by
  rcases applyVerdict_cases v s with ⟨-, e⟩ | ⟨-, e⟩ | ⟨n, -, e⟩ <;> rw [e]
  · exact .of_unheld
  · exact .refl s
  · exact deliver_memoryKept n s

theorem receive_memoryKept (n : Notice) (s : State) : MemoryKept s (receive n s) :=
  ite_memoryKept fun _ => (applyVerdict_memoryKept _ _).after

theorem receiveBytes_memoryKept (raw : Collected) (s : State) : MemoryKept s (receiveBytes raw s) := by
  unfold receiveBytes
  split
  · exact (applyVerdict_memoryKept _ _).after
  · exact ite_memoryKept fun _ => (applyVerdict_memoryKept _ _).after

theorem completeNotice_memoryKept (n : Notice) (r : Request) (s : State) : MemoryKept s (completeNotice n r s) := by
  unfold completeNotice
  dsimp only
  split
  · exact (deliver_memoryKept n _).after
  · exact .of_unheld

/-! ### The commands -/

/-- A command answers a state in which Zone Memory is kept. -/
def AnswersMemory (s : State) (r : Result) : Prop := ∃ t, r = .next t ∧ MemoryKept s t

namespace AnswersMemory

variable {s t : State}

theorem of_kept (h : MemoryKept s t) : AnswersMemory s (.next t) := ⟨t, rfl, h⟩

/-- A command that leaves Zone Memory alone where it has an effect. -/
theorem onCondition {p : Prop} [Decidable p] (h : t.memory.unheld = s.memory.unheld := by simp) :
    AnswersMemory s (.next (if p then t else s)) := .of_kept (ite_memoryKept fun _ => .of_unheld h)

theorem onExpiry {timer : Timer} {effect : State → State} (h : MemoryKept s (effect s)) :
    AnswersMemory s (.next (onExpiry timer effect s)) := .of_kept (onExpiry_memoryKept h)

end AnswersMemory

theorem execOccupancySample_memory (pinHigh : Bool) (s : State) : AnswersMemory s (execOccupancySample pinHigh s) := by
  have hread (isActive : Bool) : MemoryKept s (takeSample isActive (readPin pinHigh s)) :=
    .of_unheld (by simp [readPin])
  refine .of_kept ?_
  split
  · split
    · exact hread _
    · exact hread _
    · exact .of_unheld
    · exact .of_unheld
  · exact .of_unheld

/-- Every command leaves the identity page, and keeps the pages in form and the save engine sound. -/
theorem exec_answersMemory (c : Instr) (s : State) : AnswersMemory s (exec c s) := by
  cases c with
  | reset => exact .of_kept (afterReset_memoryKept s)
  | resetRelease pins => exact .onCondition rfl
  | oscillatorWaitEnd => exact .onCondition
  | startOfListenOnly => exact .onCondition (by simp [startListening])
  | endOfListenOnly => exact .onCondition (by simp [release])
  | call | join | tally | stir | survey | claim | presence | warmth | ask | answer | set | forget =>
    exact .of_kept (receive_memoryKept _ s)
  | discardedNotice raw => exact .of_kept (receiveBytes_memoryKept raw s)
  | guardStart | startOfChips | roundClose | risingEdge => exact .onCondition
  | chipSignal chip => exact .onCondition (by simp [signalChip])
  | chipSample => exact .onCondition rfl
  | lightConversionEnd code => exact .onCondition (by simp [endLight])
  | startOfSettle => exact .onCondition (by rw [beginSettle_eq])
  | headFixing | backoffResume | lineStartBit | framerFirstIdle | pwmReload | compareMatch => exact .onCondition
  | temperatureConversionEnd code =>
    refine .of_kept ?_
    split
    · exact ite_memoryKept fun _ => .of_unheld
    · exact .refl s
  | probeTimerExpiry =>
    exact .of_kept (ite_memoryKept fun _ => onExpiry_memoryKept (.of_unheld (by simp [becomeWanting])))
  | retryDelayExpiry | wantDeadlineExpiry | holdTimerExpiry | graceTimerExpiry | controlStep =>
    exact .of_kept (ite_memoryKept fun _ => onExpiry_memoryKept .of_unheld)
  | lineWin | loss =>
    refine .of_kept ?_
    split
    · exact .of_unheld
    · exact .refl s
  | noticeCompletion =>
    refine .of_kept ?_
    split
    · exact completeNotice_memoryKept _ _ s
    · exact .refl s
  | sampleTimerExpiry | briskTimerExpiry | agingMinute | stirSpacingExpiry | ageSecond | generationTimerExpiry
  | claimSpacingExpiry | startUpHoldEnd | lockoutExpiry | presenceSpacingExpiry | readingHoldExpiry | rosterSecond =>
    exact .onExpiry .of_unheld
  | settleTimerExpiry => exact .onExpiry (zoneChange_memoryKept _ _ _).after
  | occupancySample pinHigh => exact execOccupancySample_memory pinHigh s
  | fadeTick | warmthTimerExpiry =>
    refine .onExpiry (.of_unheld ?_)
    dsimp only
    split
    · simp
    · simp
  | restTimerExpiry => exact .onExpiry (restTimerExpiry_memoryKept s)
  | linkHoldOffExpiry => exact .onExpiry (saveRequest_memoryKept _).after
  | saveCompletion =>
    refine .of_kept ?_
    split
    · exact saveCompletion_memoryKept s
    · exact .refl s
  | clearCompletion =>
    refine .of_kept ?_
    split
    · rename_i he
      exact clearCompletion_memoryKept he
    · exact .refl s

/-- So does every step. -/
theorem step_answersMemory (s : State) : AnswersMemory s (step s) := by
  have hrun (c : Instr) (waiting : List Instr) (n : Nat) :
      AnswersMemory s (exec c { s with pending := waiting, free := n }) := by
    obtain ⟨t, ht, hkept⟩ := exec_answersMemory c { s with pending := waiting, free := n }
    exact ⟨t, ht, hkept.after ⟨rfl, rfl⟩⟩
  unfold step stepQueue
  split
  · exact hrun _ _ s.free
  · rcases idleStep_cases s with ⟨-, h⟩ | ⟨-, -, h⟩ | ⟨c, -, -, h | h⟩ <;> rw [h]
    · exact .of_kept (.refl s)
    · exact .of_kept (crystalCycle_memoryKept s)
    · exact exec_answersMemory c s
    · exact hrun c s.pending (s.free + 1)

/-- Settles O54: every command and every cycle of the crystal keeps Zone Memory; the station is read from the identity page. -/
theorem everyStepKeepsTheIdentityPageAndZoneMemory : Obligations.EveryStepKeepsTheIdentityPageAndZoneMemory := by
  intro s t hstep
  obtain ⟨u, hu, hkept⟩ := step_answersMemory s
  obtain rfl : u = t := by simpa [hu] using hstep
  refine ⟨hkept.identity, hkept.station, hkept.canonical, fun hs => ?_⟩
  obtain ⟨hslots, -⟩ := hs.table
  exact (memorySound_iff u).mpr (hkept.sound hslots ((memorySound_iff s).mp hs.memory))

end Sys2Proof.Machine

/-! SUPPORT. The step on a queue with a command at its front (00_scope, Events and simultaneity; log entry 1). -/

namespace Sys2Proof.Machine

variable {s : State}

/-- The companion of `step_of_no_command`: the two say what a step does on every queue. -/
theorem step_of_command {c : Instr} {rest : List Instr} (h : s.pending = c :: rest) :
    step s = exec c { s with pending := rest } := by
  unfold step stepQueue
  rw [h]

/-- Settles O1: the command at the front is taken off the queue and runs with only the rest waiting. -/
theorem stepRunsTheFrontCommand : Obligations.StepRunsTheFrontCommand :=
  fun _ _ _ => step_of_command rfl

end Sys2Proof.Machine
